-- ==== Sys2Proof/Word.lean ====
section
/-! DEFINITION. The word types of the block and the widths the spec gives them (00_scope.md R8). -/

namespace Sys2Proof

/-- A byte: a scancode, a glyph, an attribute, a device register. -/
abbrev Byte := BitVec 8

/-- A 32-bit command word (30_encoding.md R82). -/
abbrev Word := BitVec 32

/-- A character: a Unicode scalar value in 21 bits (30_encoding.md R77). -/
abbrev Character := BitVec 21

/-- A dispatch key: bit 8 the pre-transition state, bits 7:0 the byte (30_encoding.md R72). -/
abbrev ScanKey := BitVec 9

/-- A port number (20_memory.md R46). -/
abbrev Port := BitVec 16

/-- A display cell: attribute in bits 15:8, glyph in bits 7:0 (20_memory.md R41). -/
abbrev CellWord := BitVec 16

/-- A Unicode scalar value: 0 to 0x10FFFF without 0xD800 to 0xDFFF (00_scope.md R8). -/
abbrev Character.isScalar (c : Character) : Prop :=
  c.toNat ≤ 0x10FFFF ∧ ¬ (0xD800 ≤ c.toNat ∧ c.toNat ≤ 0xDFFF)

end Sys2Proof
end

