-- ==== Sys2Proof/Config.lean ====
section
/-! DEFINITION. The implementation parameters (00_scope.md R6 and R7). A parameter the source fixes or the spec gives a
default is a constant with that value; a parameter the spec leaves OPEN, and every value it leaves free, is an
`opaque` constant, about whose value nothing can be proved. -/

namespace Sys2Proof.Config

/-- `WIDTH` (00_scope.md R6). -/
abbrev width : Nat := 80

/-- `HEIGHT` (00_scope.md R6). -/
abbrev height : Nat := 25

/-- `NCELLS` (00_scope.md R6). -/
abbrev ncells : Nat := 2000

/-- `TAB_STOP` (00_scope.md R6). -/
abbrev tabStop : Nat := 4

/-- `LINE_CAP` (00_scope.md R6). -/
abbrev lineCap : Nat := 128

/-- `PREFIX`, the extended prefix byte (00_scope.md R6). -/
abbrev prefixByte : Byte := 0xE0

/-- `IDX_CUR_START`: sub-register of the cursor start scanline (00_scope.md R6). -/
abbrev idxCurStart : Byte := 0x0A

/-- `IDX_CUR_END`: sub-register of the cursor end scanline (00_scope.md R6). -/
abbrev idxCurEnd : Byte := 0x0B

/-- `IDX_CUR_HI`: sub-register of the cursor offset's high byte (00_scope.md R6). -/
abbrev idxCurHi : Byte := 0x0E

/-- `IDX_CUR_LO`: sub-register of the cursor offset's low byte (00_scope.md R6). -/
abbrev idxCurLo : Byte := 0x0F

/-- `MASK_CUR_START`: the bits of sub-register 0x0A that SETSHAPE keeps (00_scope.md R6). -/
abbrev maskCurStart : Byte := 0xC0

/-- `MASK_CUR_END`: the bits of sub-register 0x0B that SETSHAPE keeps (00_scope.md R6). -/
abbrev maskCurEnd : Byte := 0xE0

/-- `KBD_READY_BIT` (00_scope.md R6). -/
abbrev kbdReadyBit : Nat := 0

/-- `DISPLAY_BASE`, default (00_scope.md R7, D2). PRESUMED, log 7. Even, as 20_memory.md R43 asks. -/
abbrev displayBase : Nat := 0xB8000

/-- `CRTC_INDEX_PORT`, default (00_scope.md R7, D2). PRESUMED, log 14. -/
abbrev crtcIndexPort : Port := 0x3D4

/-- `CRTC_DATA_PORT`, default (00_scope.md R7, D2). PRESUMED, log 14. -/
abbrev crtcDataPort : Port := 0x3D5

/-- `KBD_DATA_PORT`, default (00_scope.md R7, D2). PRESUMED, log 14. -/
abbrev kbdDataPort : Port := 0x60

/-- `KBD_STATUS_PORT`, default (00_scope.md R7, D2). PRESUMED, log 14. -/
abbrev kbdStatusPort : Port := 0x64

/-- The two values of the parameter `MOD_WRITE_MODE` (00_scope.md R7). -/
inductive ModWriteMode where
  /-- A make sets the flag, a break clears it. -/
  | setClear
  /-- A make and a break each invert the flag. -/
  | flip
deriving DecidableEq, Repr

/-- `MOD_WRITE_MODE`, default `set_clear` (00_scope.md R7, D5). DESIGN CHOICE, log 16. -/
abbrev modWriteMode : ModWriteMode := .setClear

/-- `KP_MINUS_OUT`, default none (00_scope.md R7, D10). DESIGN CHOICE, log 17. -/
def kpMinusOut : Option Character := none

/-- `KP_PLUS_OUT`, default none (00_scope.md R7, D10). DESIGN CHOICE, log 17. -/
def kpPlusOut : Option Character := none

/-- `BLANK_GLYPH`, default 0x20 (00_scope.md R7, D19). PRESUMED, log 18. -/
def blankGlyph : Byte := 0x20

/-- `RESET_COLOR`, default 0x07 (00_scope.md R7, D22). PRESUMED, log 13. -/
def resetColor : Byte := 0x07

/-- `REPLACEMENT_GLYPH`: OPEN, so a free value (42_display_write.md R222, D19). Log 19. -/
opaque replacementGlyph : Byte

/-- `EXTRA_GLYPHS`: OPEN, so a free partial map (42_display_write.md R221, D19). Log 19. -/
opaque extraGlyph : Character → Option Byte

/-- `DISPLAY_RESET`, by byte address: what a byte of display memory that nothing has written reads as
(10_state.md R28; 93_implementation_defined.md U1, `any value`). A free value, log 8. -/
opaque displayReset : Nat → Byte

/-- The status byte of the keyboard controller's `n`-th answer that no script names (60_exceptions.md R296).
A free value, log 6. -/
opaque freeKbdStatus : Nat → Byte

/-- The scancode byte of the keyboard controller's `n`-th answer that no script names (60_exceptions.md R296).
A free value, log 6. -/
opaque freeKbdData : Nat → Byte

/-- What byte `i` of the line buffer holds once it has become unspecified, for the `n`-th such event
(44_poll_line_editor.md R265; 10_state.md R22; 93_implementation_defined.md U20). A free value, log 44. -/
opaque freeLineByte : Nat → Nat → Byte

/-- What a read of a port, or of a display sub-register, that the spec gives no register answers
(20_memory.md R46). No rule makes such a read. A free value, log 28. -/
opaque freePortRead : Port → Nat → Byte

end Sys2Proof.Config
end

