-- ==== Sys2Proof/Machine/State.lean ====
section
/-! DEFINITION. The state of the block (10_state.md R10), the reasons a step can stop, and the state right after reset
(10_state.md R28; 70_reset_and_hazards.md R310). -/

namespace Sys2Proof.Machine

/-- `dstate`: how the next byte is to be read (10_state.md R14). -/
inductive DState where
  | neutral
  | extendedPrefixSeen
deriving DecidableEq, Repr

/-- `mods`: the fourteen modifier flags (10_state.md R15). -/
structure Mods where
  lctrl : Bool
  rctrl : Bool
  lshift : Bool
  rshift : Bool
  lalt : Bool
  ralt : Bool
  lsuper : Bool
  rsuper : Bool
  numLock : Bool
  capsLock : Bool
  scrollLock : Bool
  numPressed : Bool
  capsPressed : Bool
  scrollPressed : Bool
deriving DecidableEq, Repr

/-- All fourteen flags 0 (10_state.md R28). -/
def Mods.none : Mods :=
  ⟨false, false, false, false, false, false, false, false, false, false, false, false, false, false⟩

/-- The display hardware's cursor registers and index latch (10_state.md R18, R19). -/
structure Crtc where
  /-- `crtc[0x0A]` -/
  cursorStart : Byte
  /-- `crtc[0x0B]` -/
  cursorEnd : Byte
  /-- `crtc[0x0E]` -/
  offsetHigh : Byte
  /-- `crtc[0x0F]` -/
  offsetLow : Byte
  /-- `crtc_index` -/
  index : Byte
deriving DecidableEq, Repr

/-- One answer of the keyboard controller to a poll: a status byte and, when its bit 0 is 1, the scancode byte that
waits (60_exceptions.md R296). -/
structure KbdAnswer where
  status : Byte
  data : Byte
deriving DecidableEq, Repr

/-- The keyboard controller (10_state.md R20, R21, R26): its two registers, the answers it will give, and how many
answers it has given beyond those (log 6). -/
structure Keyboard where
  status : Byte
  data : Byte
  pending : List KbdAnswer
  draws : Nat
deriving DecidableEq, Repr

/-- A port access, with the value that went over the port (00_scope.md R8). -/
inductive PortAccess where
  | read8 (port : Port) (v : Byte)
  | write8 (port : Port) (v : Byte)
  | write16 (port : Port) (v : BitVec 16)
deriving DecidableEq, Repr

/-- One operation of the host: a command word, or a scancode byte fed directly (10_state.md R25; 30_encoding.md R82). -/
inductive HostOp where
  | command (w : Word)
  | scancode (b : Byte)
deriving DecidableEq, Repr

/-- What an operation returns to the host (30_encoding.md R84; log 4). -/
inductive Result where
  /-- Nothing (yet). -/
  | unit
  /-- ADVANCE and GETCHAR: at most one character. -/
  | character (c : Option Character)
  /-- GETLINE: the completed line. -/
  | line (bytes : List Byte)
deriving DecidableEq, Repr

/-- The abort causes (60_exceptions.md R281). -/
inductive AbortCause where
  | doubleLock
  | cellRange
  | cursorOverflow
deriving DecidableEq, Repr

/-- The code recorded in `abort_cause` (60_exceptions.md R281; log 27). -/
def AbortCause.code : AbortCause → BitVec 2
  | .doubleLock => 1
  | .cellRange => 2
  | .cursorOverflow => 3

/-- Memory: (address, byte) pairs with rising addresses; a byte that is not listed has no value of its own (log 8). -/
abbrev Memory := List Host.Cell

/-- The whole state (10_state.md R10), with the model's own fields last. -/
structure State where
  /-- `cursor_x` (10_state.md R11) -/
  cursorX : BitVec 7
  /-- `cursor_y` (10_state.md R11) -/
  cursorY : BitVec 5
  /-- `current_color` (10_state.md R11) -/
  currentColor : Byte
  /-- `dstate` (10_state.md R14) -/
  dstate : DState
  /-- `mods` (10_state.md R15) -/
  mods : Mods
  /-- `line[0..127]` (10_state.md R22) -/
  line : Vector Byte 128
  /-- `len` (10_state.md R22) -/
  len : BitVec 8
  /-- `locked` (10_state.md R23) -/
  locked : Bool
  /-- `aborted` (10_state.md R24) -/
  aborted : Bool
  /-- `abort_cause` (10_state.md R24) -/
  abortCause : BitVec 2
  /-- `cell[0..1999]`, in the byte view of 20_memory.md R42 -/
  cells : Memory
  /-- `crtc[]` and `crtc_index` (10_state.md R18, R19) -/
  crtc : Crtc
  /-- the keyboard controller (10_state.md R20, R21, R26) -/
  kbd : Keyboard
  /-- the model's own: the operations the host will issue, first to last (log 1) -/
  host : List HostOp
  /-- the model's own: a GETLINE is in progress (44_poll_line_editor.md R269; log 3) -/
  lineActive : Bool
  /-- the model's own: how many times bytes of the line buffer have become unspecified (10_state.md R22; log 44) -/
  lineDraws : Nat
  /-- the model's own: what the last operation returned (log 4) -/
  result : Result
  /-- the model's own: the port accesses made so far, newest first (20_memory.md R50 (b); log 5) -/
  trace : List PortAccess
deriving DecidableEq, Repr

/-- Why the machine stops with no next state. -/
inductive Fault where
  /-- Any command but FORCE_LOCK while `aborted` = 1 (60_exceptions.md R286: the block accepts no command, "no step").
  Raised by every meaning but FORCE_LOCK's. Safe: the real failure handler goes on where the model stops (D23; log 20). -/
  | blockAborted
  /-- A cell access at an index of 2000 or more, which has no meaning (20_memory.md R44: stuck). Raised by the cell read
  and the cell write; no state that meets the cursor invariant reaches it. Safe (log 21). -/
  | cellIndexOutOfRange (i : Nat)
deriving DecidableEq, Repr

/-- Why the block is not given an operation at all. -/
inductive Refusal where
  /-- An instruction that has no meaning yet, by its mnemonic. No arm raises it. Safe. -/
  | notModelled (mnemonic : String)
  /-- A command word with op 0xE, reserved (30_encoding.md R83). Raised by its meaning. Safe (log 23). -/
  | reservedCommandE
  /-- A command word with op 0xF, reserved (30_encoding.md R83). Raised by its meaning. Safe (log 23). -/
  | reservedCommandF
  /-- A command word with a non-zero bit outside its fields (30_encoding.md R83). Raised by the decoder. Safe (log 23). -/
  | nonZeroReservedBits (w : Word)
  /-- A PUTCHAR word whose operand is no scalar value (30_encoding.md R83). Raised by the decoder. Safe (log 23). -/
  | notScalarValue (w : Word)
  /-- UNLOCK while `locked` = 0 (20_memory.md R56: a model refuses it). Raised by UNLOCK. Safe (D27; log 22). -/
  | unlockWhileUnlocked
deriving DecidableEq, Repr

/-- The outcome of one operation. -/
abbrev Outcome := Host.Outcome State Fault Refusal

/-- The machine right after reset: 10_state.md R28 for the values the spec decides; a named value for those it leaves
unspecified (`crtc`, `kbd`, `line`, `abortCause`: DESIGN CHOICE, logs 9 to 12); no byte of display memory written. -/
def State.reset : State where
  cursorX := 0
  cursorY := 0
  currentColor := Config.resetColor
  dstate := .neutral
  mods := Mods.none
  line := Vector.replicate 128 0
  len := 0
  locked := false
  aborted := false
  abortCause := 0
  cells := []
  crtc := ⟨0, 0, 0, 0, 0⟩
  kbd := ⟨0, 0, [], 0⟩
  host := []
  lineActive := false
  lineDraws := 0
  result := .unit
  trace := []

end Sys2Proof.Machine
end

