-- ==== Sys2Proof/Machine/Flags.lean ====
section
/-! DEFINITION. The modifier flags: the predicates every rule reads them through (10_state.md R16), and the writes the
decoder's entries make (40_decoder_core_modifiers.md R104, R121). -/

namespace Sys2Proof.Machine

/-- The eight held flags (10_state.md R15, bits 0 to 7). -/
inductive HeldFlag where
  | lctrl | rctrl | lshift | rshift | lalt | ralt | lsuper | rsuper
deriving DecidableEq, Repr

/-- The three lock keys (10_state.md R15, bits 8 to 13). -/
inductive LockKey where
  | num | caps | scroll
deriving DecidableEq, Repr

/-- `shift_held` (10_state.md R16). -/
def Mods.shiftHeld (m : Mods) : Bool := m.lshift || m.rshift

/-- `ctrl_held` (10_state.md R16). -/
def Mods.ctrlHeld (m : Mods) : Bool := m.lctrl || m.rctrl

/-- `caps_active` (10_state.md R16). -/
def Mods.capsActive (m : Mods) : Bool := m.capsLock

/-- `num_active` (10_state.md R16). -/
def Mods.numActive (m : Mods) : Bool := m.numLock

/-- `shifted` (10_state.md R16). -/
def Mods.shifted (m : Mods) : Bool := xor m.shiftHeld m.capsActive

/-- The value of a held flag. -/
def Mods.held (m : Mods) : HeldFlag → Bool
  | .lctrl => m.lctrl
  | .rctrl => m.rctrl
  | .lshift => m.lshift
  | .rshift => m.rshift
  | .lalt => m.lalt
  | .ralt => m.ralt
  | .lsuper => m.lsuper
  | .rsuper => m.rsuper

/-- A held flag given a value, the other flags kept. -/
def Mods.setHeld (m : Mods) (f : HeldFlag) (v : Bool) : Mods :=
  match f with
  | .lctrl => { m with lctrl := v }
  | .rctrl => { m with rctrl := v }
  | .lshift => { m with lshift := v }
  | .rshift => { m with rshift := v }
  | .lalt => { m with lalt := v }
  | .ralt => { m with ralt := v }
  | .lsuper => { m with lsuper := v }
  | .rsuper => { m with rsuper := v }

/-- The lock value bit of a lock key. -/
def Mods.lockValue (m : Mods) : LockKey → Bool
  | .num => m.numLock
  | .caps => m.capsLock
  | .scroll => m.scrollLock

/-- The pressed-edge bit of a lock key. -/
def Mods.lockPressed (m : Mods) : LockKey → Bool
  | .num => m.numPressed
  | .caps => m.capsPressed
  | .scroll => m.scrollPressed

/-- A lock key's two bits given values, the other flags kept. -/
def Mods.setLock (m : Mods) (k : LockKey) (value pressed : Bool) : Mods :=
  match k with
  | .num => { m with numLock := value, numPressed := pressed }
  | .caps => { m with capsLock := value, capsPressed := pressed }
  | .scroll => { m with scrollLock := value, scrollPressed := pressed }

/-- `mod_make(F)` in both modes (40_decoder_core_modifiers.md R104). -/
def modMake (mode : Config.ModWriteMode) (f : HeldFlag) (m : Mods) : Mods :=
  match mode with
  | .setClear => m.setHeld f true
  | .flip => m.setHeld f (!m.held f)

/-- `mod_break(F)` in both modes (40_decoder_core_modifiers.md R104). -/
def modBreak (mode : Config.ModWriteMode) (f : HeldFlag) (m : Mods) : Mods :=
  match mode with
  | .setClear => m.setHeld f false
  | .flip => m.setHeld f (!m.held f)

/-- `lock_make(V, P)`: the value toggles only on an edge not already tracked (40_decoder_core_modifiers.md R121). -/
def lockMake (k : LockKey) (m : Mods) : Mods :=
  m.setLock k (if m.lockPressed k then m.lockValue k else !m.lockValue k) true

/-- `lock_break(V, P)`: only the pressed-edge bit is cleared (40_decoder_core_modifiers.md R121). -/
def lockBreak (k : LockKey) (m : Mods) : Mods :=
  m.setLock k (m.lockValue k) false

/-- The flags as a 14-bit word, bit 0 `LCTRL` to bit 13 `SCROLL_PRESSED` (10_state.md R15; log 25). No interface of the
block exposes it. -/
def Mods.toWord (m : Mods) : BitVec 14 :=
  BitVec.ofBoolListLE [m.lctrl, m.rctrl, m.lshift, m.rshift, m.lalt, m.ralt, m.lsuper, m.rsuper,
    m.numLock, m.capsLock, m.scrollLock, m.numPressed, m.capsPressed, m.scrollPressed]

/-- The flags a 14-bit word stands for (10_state.md R15; log 25). -/
def Mods.ofWord (w : BitVec 14) : Mods :=
  ⟨w[0], w[1], w[2], w[3], w[4], w[5], w[6], w[7], w[8], w[9], w[10], w[11], w[12], w[13]⟩

end Sys2Proof.Machine
end

