-- ==== Sys2Proof/Machine/Operands.lean ====
section
/-! DEFINITION. The operand forms: dispatch keys, dispatch entries, cells and cell indices, glyphs, and the two display
register formats (30_encoding.md R70 to R77; 42_display_write.md R221, R222). -/

namespace Sys2Proof.Machine

/-- `dstate` as bit 8 of a dispatch key: `Neutral` 0, `ExtendedPrefixSeen` 1 (10_state.md R14; log 26). -/
def DState.bit : DState → Bool
  | .neutral => false
  | .extendedPrefixSeen => true

/-- The dispatch key `{s, b}` (30_encoding.md R72). -/
def keyOf (st : DState) (b : Byte) : ScanKey := BitVec.ofBool st.bit ++ b

/-- The pre-transition state of a dispatch key (30_encoding.md R72). -/
def stateOfKey (k : ScanKey) : DState := if k[8] then .extendedPrefixSeen else .neutral

/-- The byte of a dispatch key (30_encoding.md R72). -/
def byteOfKey (k : ScanKey) : Byte := k.extractLsb' 0 8

/-- `next_state(s, b)` (40_decoder_core_modifiers.md R101). -/
def nextState (st : DState) (b : Byte) : DState :=
  if st = .neutral ∧ b = Config.prefixByte then .extendedPrefixSeen else .neutral

/-- What an entry of the dispatch map does (40_decoder_core_modifiers.md R103 to R128; 41_decoder_characters.md R140,
R188, R202 to R207). -/
inductive Entry where
  | extendedPrefix
  | modMake (f : HeldFlag)
  | modBreak (f : HeldFlag)
  | lockMake (k : LockKey)
  | lockBreak (k : LockKey)
  | printable (unshifted shifted : Character)
  | keypad (d : Option Character)
  | functional (c : Character)
  | unmatched
deriving DecidableEq, Repr

/-- A row of the dispatch map: its pre-transition state, its byte and its entry (40_decoder_core_modifiers.md R102). -/
structure Row where
  state : DState
  byte : Byte
  entry : Entry
deriving DecidableEq, Repr

/-- `printable(u, v)` (41_decoder_characters.md R140). -/
def printableOutput (u v : Character) (m : Mods) : Option Character :=
  if m.shifted then some v else some u

/-- `keypad(d)` (41_decoder_characters.md R188). -/
def keypadOutput (d : Option Character) (m : Mods) : Option Character :=
  if m.numActive then d else none

/-- What an entry yields and how it leaves the flags. -/
def runEntry (e : Entry) (m : Mods) : Option Character × Mods :=
  match e with
  | .extendedPrefix => (none, m)
  | .modMake f => (none, modMake Config.modWriteMode f m)
  | .modBreak f => (none, modBreak Config.modWriteMode f m)
  | .lockMake k => (none, lockMake k m)
  | .lockBreak k => (none, lockBreak k m)
  | .printable u v => (printableOutput u v m, m)
  | .keypad d => (keypadOutput d m, m)
  | .functional c => (some c, m)
  | .unmatched => (none, m)

/-- A cell of attribute `a` and glyph `g` (20_memory.md R41; 30_encoding.md R74). -/
def cellOf (a g : Byte) : CellWord := a ++ g

/-- The glyph of a cell (20_memory.md R41). -/
def glyphOf (v : CellWord) : Byte := v.extractLsb' 0 8

/-- The attribute of a cell (20_memory.md R41). -/
def attributeOf (v : CellWord) : Byte := v.extractLsb' 8 8

/-- The two bytes of a cell in the byte view, the glyph at the lower address (20_memory.md R42; log 7). -/
def cellBytes (v : CellWord) : List Byte := [glyphOf v, attributeOf v]

/-- The index of the cell at column `x`, row `y` (20_memory.md R40). -/
def cellIndex (x y : Nat) : Nat := y * Config.width + x

/-- The byte address of cell `i` (20_memory.md R42). -/
def cellAddr (i : Nat) : Nat := Config.displayBase + 2 * i

/-- `glyph_for(c)` (42_display_write.md R221): printable ASCII is its own code, the extra symbols are free, all others have
none; no control character has a glyph (log 18, log 19). -/
def glyphFor (c : Character) : Option Byte :=
  if 0x20 ≤ c.toNat ∧ c.toNat ≤ 0x7E then some (c.setWidth 8)
  else if 0x7F < c.toNat then Config.extraGlyph c
  else none

/-- `resolve(c)` (42_display_write.md R222). -/
def resolve (c : Character) : Byte := (glyphFor c).getD Config.replacementGlyph

/-- The low byte of the cursor offset (30_encoding.md R75). -/
def offsetLowByte (off : Nat) : Byte := BitVec.ofNat 8 off

/-- The high byte of the cursor offset (30_encoding.md R75). -/
def offsetHighByte (off : Nat) : Byte := BitVec.ofNat 8 (off / 256)

/-- The new value of sub-register 0x0A (30_encoding.md R76). -/
def startScanline (old : Byte) (startLine : BitVec 6) : Byte :=
  (old &&& Config.maskCurStart) ||| startLine.setWidth 8

/-- The new value of sub-register 0x0B (30_encoding.md R76). -/
def endScanline (old : Byte) (endLine : BitVec 5) : Byte :=
  (old &&& Config.maskCurEnd) ||| endLine.setWidth 8

/-- The next tab stop strictly after column `x` (42_display_write.md R226; log 32). -/
def nextTabStop (x : Nat) : Nat := (x / Config.tabStop + 1) * Config.tabStop

/-- Whitespace of the line editor: space and tab (44_poll_line_editor.md R266). -/
def isWhitespace (v : Byte) : Bool := v == 0x20 || v == 0x09

end Sys2Proof.Machine
end

