-- ==== Sys2Proof/Machine/Ops.lean ====
section
/-! DEFINITION. The operations the meanings share: display memory (20_memory.md R40 to R45), the ports and the two devices
behind them (20_memory.md R46, R47; 60_exceptions.md R296, R297), abort entry (60_exceptions.md R284), and how a rule
runs (60_exceptions.md R286). -/

namespace Sys2Proof.Machine

/-- The bytes `bs` at consecutive addresses from `a`. -/
def Memory.block (a : Nat) : List Byte → Memory
  | [] => []
  | b :: bs => (a, b) :: Memory.block (a + 1) bs

/-- The byte stored at an address, if one has been written. -/
def Memory.stored (m : Memory) (a : Nat) : Option Byte := List.lookup a m

/-- The byte read at an address: what was written, or the free value of the reset content (log 8). -/
def Memory.byteAt (m : Memory) (a : Nat) : Byte := (m.stored a).getD (Config.displayReset a)

/-- The bytes `bs` stored at consecutive addresses from `a`; every other address is kept. -/
def Memory.store (m : Memory) (a : Nat) (bs : List Byte) : Memory :=
  m.filter (fun p => p.1 < a) ++ Memory.block a bs ++ m.filter (fun p => a + bs.length ≤ p.1)

/-- The canonical form: addresses strictly rising, all inside display memory. No listed byte equals what an unlisted
address holds, since that is no byte at all. -/
abbrev Memory.wf (m : Memory) : Prop :=
  m.Pairwise (fun p q => p.1 < q.1) ∧
    ∀ p ∈ m, Config.displayBase ≤ p.1 ∧ p.1 < Config.displayBase + 2 * Config.ncells

/-- What the two bytes of cell `i` make, in the byte view (20_memory.md R41, R42). The block reads cells by `cellRead`
alone, which asks for `i < 2000`. -/
def Memory.cellAt (m : Memory) (i : Nat) : CellWord :=
  cellOf (m.byteAt (cellAddr i + 1)) (m.byteAt (cellAddr i))

/-- The cells `vs` stored from cell `i` on. -/
def storeCells (m : Memory) (i : Nat) (vs : List CellWord) : Memory :=
  m.store (cellAddr i) (vs.flatMap cellBytes)

/-- How a rule of the spec can end early. -/
inductive Stop where
  /-- `raise Abort(cause)`: the rule ends in this state (60_exceptions.md R284). -/
  | raised (s : State)
  /-- The rule has no step. -/
  | stuck (f : Fault)
deriving DecidableEq, Repr

/-- A rule's run: it goes on in a state, or it has stopped. -/
abbrev Run := Except Stop State

/-- The state with a result for the host (log 4). -/
def State.withResult (s : State) (r : Result) : State := { s with result := r }

/-- Abort entry: the cause and the flag are recorded, nothing else (60_exceptions.md R282, R284). There is no return from
an abort (60_exceptions.md R285). -/
def abortEntry (c : AbortCause) (s : State) : State :=
  { s with abortCause := c.code, aborted := true }

/-- `raise Abort(cause)`: abort entry, and nothing after it in the rule happens (60_exceptions.md R284). -/
def raiseAbort (c : AbortCause) (s : State) : Run := .error (.raised (abortEntry c s))

/-- The outcome of a rule that has been run. -/
def finish : Run → Outcome
  | .ok s => .next s
  | .error (.raised s) => .next s
  | .error (.stuck f) => .fault f

/-- One command: no step while `aborted` = 1 (60_exceptions.md R286), else the rule, with no result unless it gives one. -/
def runCommand (s : State) (rule : State → Run) : Outcome :=
  if s.aborted then .fault .blockAborted else finish (rule (s.withResult .unit))

/-- `CellRead(i)`: the cell's value, and no step for an index of 2000 or more (00_scope.md R8; 20_memory.md R44, R45;
log 21). -/
def cellRead (i : Nat) (s : State) : Except Stop CellWord :=
  if i < Config.ncells then .ok (s.cells.cellAt i) else .error (.stuck (.cellIndexOutOfRange i))

/-- The `n` cells from cell `i` on, each by `CellRead`. -/
def readCells (i : Nat) (s : State) : Nat → Except Stop (List CellWord)
  | 0 => .ok []
  | n + 1 => do
    let v ← cellRead i s
    let vs ← readCells (i + 1) s n
    .ok (v :: vs)

/-- `CellWrite(i, v)`: no step for an index of 2000 or more (00_scope.md R8; 20_memory.md R44; log 21). -/
def cellWrite (i : Nat) (v : CellWord) (s : State) : Run :=
  if i < Config.ncells then .ok { s with cells := storeCells s.cells i [v] }
  else .error (.stuck (.cellIndexOutOfRange i))

/-- A port access recorded. -/
def State.record (s : State) (a : PortAccess) : State := { s with trace := a :: s.trace }

/-- The sub-register the index latch selects, if it is one of the four (60_exceptions.md R297). -/
def Crtc.selected (c : Crtc) : Option Byte :=
  if c.index = Config.idxCurStart then some c.cursorStart
  else if c.index = Config.idxCurEnd then some c.cursorEnd
  else if c.index = Config.idxCurHi then some c.offsetHigh
  else if c.index = Config.idxCurLo then some c.offsetLow
  else none

/-- The selected sub-register given a value (60_exceptions.md R297). A number that is none of the four changes nothing
(log 28). -/
def Crtc.writeSelected (c : Crtc) (v : Byte) : Crtc :=
  if c.index = Config.idxCurStart then { c with cursorStart := v }
  else if c.index = Config.idxCurEnd then { c with cursorEnd := v }
  else if c.index = Config.idxCurHi then { c with offsetHigh := v }
  else if c.index = Config.idxCurLo then { c with offsetLow := v }
  else c

/-- The keyboard controller's next answer: the first that is to come, or, after those, a free one (60_exceptions.md R296;
log 6). -/
def Keyboard.answer (k : Keyboard) : KbdAnswer × Keyboard :=
  match k.pending with
  | a :: rest => (a, { k with pending := rest })
  | [] => (⟨Config.freeKbdStatus k.draws, Config.freeKbdData k.draws⟩, { k with draws := k.draws + 1 })

/-- Byte-ready: status bit 0 (10_state.md R20). -/
def isReady (status : Byte) : Bool := status.getLsbD Config.kbdReadyBit

/-- A read of the keyboard status register: a new answer, whose byte waits in the data register when bit 0 is 1
(10_state.md R20; 60_exceptions.md R296). -/
def Keyboard.readStatus (k : Keyboard) : Byte × Keyboard :=
  let (a, k') := k.answer
  (a.status, { k' with status := a.status, data := if isReady a.status then a.data else k.data })

/-- A read of the keyboard data register: it consumes the byte, so the ready bit is cleared (20_memory.md R47;
60_exceptions.md R289). -/
def Keyboard.readData (k : Keyboard) : Byte × Keyboard :=
  (k.data, { k with status := k.status &&& 0xFE })

/-- `PortRead8(p)` (20_memory.md R46, R47; 60_exceptions.md R296, R297). It never fails. -/
def portRead8 (p : Port) (s : State) : Byte × State :=
  if p = Config.kbdStatusPort then
    let (v, k) := s.kbd.readStatus
    (v, { s with kbd := k }.record (.read8 p v))
  else if p = Config.kbdDataPort then
    let (v, k) := s.kbd.readData
    (v, { s with kbd := k }.record (.read8 p v))
  else
    let free := Config.freePortRead p s.trace.length
    let v := if p = Config.crtcDataPort then s.crtc.selected.getD free else free
    (v, s.record (.read8 p v))

/-- `PortWrite8(p, v)` (20_memory.md R46, R47; 60_exceptions.md R297). It never fails; a port without a register of the
block changes nothing. -/
def portWrite8 (p : Port) (v : Byte) (s : State) : State :=
  if p = Config.crtcIndexPort then { s with crtc := { s.crtc with index := v } }.record (.write8 p v)
  else if p = Config.crtcDataPort then { s with crtc := s.crtc.writeSelected v }.record (.write8 p v)
  else s.record (.write8 p v)

/-- `PortWrite16(p, v)`, which no rule uses (20_memory.md R46): the access is recorded, and no register of the block is
said to change (log 29). -/
def portWrite16 (p : Port) (v : BitVec 16) (s : State) : State := s.record (.write16 p v)

/-- A row of the dispatch map, run: `dstate` by the transition, the flags and the output by the entry
(40_decoder_core_modifiers.md R100 to R102). -/
def applyRow (r : Row) (s : State) : Option Character × State :=
  let (out, m) := runEntry r.entry s.mods
  (out, { s with dstate := nextState r.state r.byte, mods := m })

/-- A row of the dispatch map as an instruction: its byte, fed in its state (log 2). -/
def runScanRow (r : Row) (s : State) : Outcome :=
  runCommand s fun s => let (out, s') := applyRow r s; .ok (s'.withResult (.character out))

end Sys2Proof.Machine
end

