-- ==== Sys2Proof/Machine/ScanFunctional.lean ====
section
/-! DEFINITION. The 6 functional entries of the dispatch map (41_decoder_characters.md R202 to R207). -/

namespace Sys2Proof.Machine

/-- The entry SC.ESC (41_decoder_characters.md R207). -/
def rowScEsc : Row := ⟨.neutral, 0x01, .functional 0x1B⟩

/-- SC.ESC (41_decoder_characters.md R207). -/
def execScEsc (s : State) : Outcome := runScanRow rowScEsc s

/-- The entry SC.BKSP (41_decoder_characters.md R205). -/
def rowScBksp : Row := ⟨.neutral, 0x0E, .functional 0x08⟩

/-- SC.BKSP (41_decoder_characters.md R205). -/
def execScBksp (s : State) : Outcome := runScanRow rowScBksp s

/-- The entry SC.TAB (41_decoder_characters.md R206). -/
def rowScTab : Row := ⟨.neutral, 0x0F, .functional 0x09⟩

/-- SC.TAB (41_decoder_characters.md R206). -/
def execScTab (s : State) : Outcome := runScanRow rowScTab s

/-- The entry SC.ENTER (41_decoder_characters.md R203). -/
def rowScEnter : Row := ⟨.neutral, 0x1C, .functional 0x0A⟩

/-- SC.ENTER (41_decoder_characters.md R203). -/
def execScEnter (s : State) : Outcome := runScanRow rowScEnter s

/-- The entry SC.XENTER (41_decoder_characters.md R204). -/
def rowScXenter : Row := ⟨.extendedPrefixSeen, 0x1C, .functional 0x0A⟩

/-- SC.XENTER (41_decoder_characters.md R204). -/
def execScXenter (s : State) : Outcome := runScanRow rowScXenter s

/-- The entry SC.SPACE (41_decoder_characters.md R202). -/
def rowScSpace : Row := ⟨.neutral, 0x39, .functional 0x20⟩

/-- SC.SPACE (41_decoder_characters.md R202). -/
def execScSpace (s : State) : Outcome := runScanRow rowScSpace s

end Sys2Proof.Machine
end

