-- ==== Sys2Proof/Machine/ScanKeypad.lean ====
section
/-! DEFINITION. The 13 keypad entries of the dispatch map (41_decoder_characters.md R188 to R201). -/

namespace Sys2Proof.Machine

/-- The entry SC.KP_7 (41_decoder_characters.md R189). -/
def rowScKp7 : Row := ⟨.neutral, 0x47, .keypad (some 0x37)⟩

/-- SC.KP_7 (41_decoder_characters.md R189). -/
def execScKp7 (s : State) : Outcome := runScanRow rowScKp7 s

/-- The entry SC.KP_8 (41_decoder_characters.md R190). -/
def rowScKp8 : Row := ⟨.neutral, 0x48, .keypad (some 0x38)⟩

/-- SC.KP_8 (41_decoder_characters.md R190). -/
def execScKp8 (s : State) : Outcome := runScanRow rowScKp8 s

/-- The entry SC.KP_9 (41_decoder_characters.md R191). -/
def rowScKp9 : Row := ⟨.neutral, 0x49, .keypad (some 0x39)⟩

/-- SC.KP_9 (41_decoder_characters.md R191). -/
def execScKp9 (s : State) : Outcome := runScanRow rowScKp9 s

/-- The entry SC.KP_MINUS (41_decoder_characters.md R192). -/
def rowScKpMinus : Row := ⟨.neutral, 0x4A, .keypad Config.kpMinusOut⟩

/-- SC.KP_MINUS (41_decoder_characters.md R192). -/
def execScKpMinus (s : State) : Outcome := runScanRow rowScKpMinus s

/-- The entry SC.KP_4 (41_decoder_characters.md R193). -/
def rowScKp4 : Row := ⟨.neutral, 0x4B, .keypad (some 0x34)⟩

/-- SC.KP_4 (41_decoder_characters.md R193). -/
def execScKp4 (s : State) : Outcome := runScanRow rowScKp4 s

/-- The entry SC.KP_5 (41_decoder_characters.md R194). -/
def rowScKp5 : Row := ⟨.neutral, 0x4C, .keypad (some 0x35)⟩

/-- SC.KP_5 (41_decoder_characters.md R194). -/
def execScKp5 (s : State) : Outcome := runScanRow rowScKp5 s

/-- The entry SC.KP_6 (41_decoder_characters.md R195). -/
def rowScKp6 : Row := ⟨.neutral, 0x4D, .keypad (some 0x36)⟩

/-- SC.KP_6 (41_decoder_characters.md R195). -/
def execScKp6 (s : State) : Outcome := runScanRow rowScKp6 s

/-- The entry SC.KP_PLUS (41_decoder_characters.md R196). -/
def rowScKpPlus : Row := ⟨.neutral, 0x4E, .keypad Config.kpPlusOut⟩

/-- SC.KP_PLUS (41_decoder_characters.md R196). -/
def execScKpPlus (s : State) : Outcome := runScanRow rowScKpPlus s

/-- The entry SC.KP_1 (41_decoder_characters.md R197). -/
def rowScKp1 : Row := ⟨.neutral, 0x4F, .keypad (some 0x31)⟩

/-- SC.KP_1 (41_decoder_characters.md R197). -/
def execScKp1 (s : State) : Outcome := runScanRow rowScKp1 s

/-- The entry SC.KP_2 (41_decoder_characters.md R198). -/
def rowScKp2 : Row := ⟨.neutral, 0x50, .keypad (some 0x32)⟩

/-- SC.KP_2 (41_decoder_characters.md R198). -/
def execScKp2 (s : State) : Outcome := runScanRow rowScKp2 s

/-- The entry SC.KP_3 (41_decoder_characters.md R199). -/
def rowScKp3 : Row := ⟨.neutral, 0x51, .keypad (some 0x33)⟩

/-- SC.KP_3 (41_decoder_characters.md R199). -/
def execScKp3 (s : State) : Outcome := runScanRow rowScKp3 s

/-- The entry SC.KP_0 (41_decoder_characters.md R200). -/
def rowScKp0 : Row := ⟨.neutral, 0x52, .keypad (some 0x30)⟩

/-- SC.KP_0 (41_decoder_characters.md R200). -/
def execScKp0 (s : State) : Outcome := runScanRow rowScKp0 s

/-- The entry SC.KP_PERIOD (41_decoder_characters.md R201). -/
def rowScKpPeriod : Row := ⟨.neutral, 0x53, .keypad (some 0x2E)⟩

/-- SC.KP_PERIOD (41_decoder_characters.md R201). -/
def execScKpPeriod (s : State) : Outcome := runScanRow rowScKpPeriod s

end Sys2Proof.Machine
end

