-- ==== Sys2Proof/Machine/ScanModifiers.lean ====
section
/-! DEFINITION. The entries of the dispatch map that yield no character: the prefix entry, the sixteen modifier entries, the six
lock entries and the default entry (40_decoder_core_modifiers.md R103 to R128). Each entry is a row (its state, its byte
and what it does) and the meaning of the row as an instruction. -/

namespace Sys2Proof.Machine

/-- The entry SC.PREFIX (40_decoder_core_modifiers.md R103). -/
def rowScPrefix : Row := ⟨.neutral, 0xE0, .extendedPrefix⟩

/-- SC.PREFIX (40_decoder_core_modifiers.md R103). -/
def execScPrefix (s : State) : Outcome := runScanRow rowScPrefix s

/-- The entry SC.LCTRL.MK (40_decoder_core_modifiers.md R105). -/
def rowScLctrlMk : Row := ⟨.neutral, 0x1D, .modMake .lctrl⟩

/-- SC.LCTRL.MK (40_decoder_core_modifiers.md R105). -/
def execScLctrlMk (s : State) : Outcome := runScanRow rowScLctrlMk s

/-- The entry SC.LCTRL.BK (40_decoder_core_modifiers.md R106). -/
def rowScLctrlBk : Row := ⟨.neutral, 0x9D, .modBreak .lctrl⟩

/-- SC.LCTRL.BK (40_decoder_core_modifiers.md R106). -/
def execScLctrlBk (s : State) : Outcome := runScanRow rowScLctrlBk s

/-- The entry SC.RCTRL.MK (40_decoder_core_modifiers.md R107). -/
def rowScRctrlMk : Row := ⟨.extendedPrefixSeen, 0x1D, .modMake .rctrl⟩

/-- SC.RCTRL.MK (40_decoder_core_modifiers.md R107). -/
def execScRctrlMk (s : State) : Outcome := runScanRow rowScRctrlMk s

/-- The entry SC.RCTRL.BK (40_decoder_core_modifiers.md R108). -/
def rowScRctrlBk : Row := ⟨.extendedPrefixSeen, 0x9D, .modBreak .rctrl⟩

/-- SC.RCTRL.BK (40_decoder_core_modifiers.md R108). -/
def execScRctrlBk (s : State) : Outcome := runScanRow rowScRctrlBk s

/-- The entry SC.LSHIFT.MK (40_decoder_core_modifiers.md R109). -/
def rowScLshiftMk : Row := ⟨.neutral, 0x2A, .modMake .lshift⟩

/-- SC.LSHIFT.MK (40_decoder_core_modifiers.md R109). -/
def execScLshiftMk (s : State) : Outcome := runScanRow rowScLshiftMk s

/-- The entry SC.LSHIFT.BK (40_decoder_core_modifiers.md R110). -/
def rowScLshiftBk : Row := ⟨.neutral, 0xAA, .modBreak .lshift⟩

/-- SC.LSHIFT.BK (40_decoder_core_modifiers.md R110). -/
def execScLshiftBk (s : State) : Outcome := runScanRow rowScLshiftBk s

/-- The entry SC.RSHIFT.MK (40_decoder_core_modifiers.md R111). -/
def rowScRshiftMk : Row := ⟨.neutral, 0x36, .modMake .rshift⟩

/-- SC.RSHIFT.MK (40_decoder_core_modifiers.md R111). -/
def execScRshiftMk (s : State) : Outcome := runScanRow rowScRshiftMk s

/-- The entry SC.RSHIFT.BK (40_decoder_core_modifiers.md R112). -/
def rowScRshiftBk : Row := ⟨.neutral, 0xB6, .modBreak .rshift⟩

/-- SC.RSHIFT.BK (40_decoder_core_modifiers.md R112). -/
def execScRshiftBk (s : State) : Outcome := runScanRow rowScRshiftBk s

/-- The entry SC.LALT.MK (40_decoder_core_modifiers.md R113). -/
def rowScLaltMk : Row := ⟨.neutral, 0x38, .modMake .lalt⟩

/-- SC.LALT.MK (40_decoder_core_modifiers.md R113). -/
def execScLaltMk (s : State) : Outcome := runScanRow rowScLaltMk s

/-- The entry SC.LALT.BK (40_decoder_core_modifiers.md R114). -/
def rowScLaltBk : Row := ⟨.neutral, 0xB8, .modBreak .lalt⟩

/-- SC.LALT.BK (40_decoder_core_modifiers.md R114). -/
def execScLaltBk (s : State) : Outcome := runScanRow rowScLaltBk s

/-- The entry SC.RALT.MK (40_decoder_core_modifiers.md R115). -/
def rowScRaltMk : Row := ⟨.extendedPrefixSeen, 0x38, .modMake .ralt⟩

/-- SC.RALT.MK (40_decoder_core_modifiers.md R115). -/
def execScRaltMk (s : State) : Outcome := runScanRow rowScRaltMk s

/-- The entry SC.RALT.BK (40_decoder_core_modifiers.md R116). -/
def rowScRaltBk : Row := ⟨.extendedPrefixSeen, 0xB8, .modBreak .ralt⟩

/-- SC.RALT.BK (40_decoder_core_modifiers.md R116). -/
def execScRaltBk (s : State) : Outcome := runScanRow rowScRaltBk s

/-- The entry SC.LSUPER.MK (40_decoder_core_modifiers.md R117). -/
def rowScLsuperMk : Row := ⟨.extendedPrefixSeen, 0x5B, .modMake .lsuper⟩

/-- SC.LSUPER.MK (40_decoder_core_modifiers.md R117). -/
def execScLsuperMk (s : State) : Outcome := runScanRow rowScLsuperMk s

/-- The entry SC.LSUPER.BK (40_decoder_core_modifiers.md R118). -/
def rowScLsuperBk : Row := ⟨.extendedPrefixSeen, 0xDB, .modBreak .lsuper⟩

/-- SC.LSUPER.BK (40_decoder_core_modifiers.md R118). -/
def execScLsuperBk (s : State) : Outcome := runScanRow rowScLsuperBk s

/-- The entry SC.RSUPER.MK (40_decoder_core_modifiers.md R119). -/
def rowScRsuperMk : Row := ⟨.extendedPrefixSeen, 0x5C, .modMake .rsuper⟩

/-- SC.RSUPER.MK (40_decoder_core_modifiers.md R119). -/
def execScRsuperMk (s : State) : Outcome := runScanRow rowScRsuperMk s

/-- The entry SC.RSUPER.BK (40_decoder_core_modifiers.md R120). -/
def rowScRsuperBk : Row := ⟨.extendedPrefixSeen, 0xDC, .modBreak .rsuper⟩

/-- SC.RSUPER.BK (40_decoder_core_modifiers.md R120). -/
def execScRsuperBk (s : State) : Outcome := runScanRow rowScRsuperBk s

/-- The entry SC.CAPS.MK (40_decoder_core_modifiers.md R122). -/
def rowScCapsMk : Row := ⟨.neutral, 0x3A, .lockMake .caps⟩

/-- SC.CAPS.MK (40_decoder_core_modifiers.md R122). -/
def execScCapsMk (s : State) : Outcome := runScanRow rowScCapsMk s

/-- The entry SC.CAPS.BK (40_decoder_core_modifiers.md R123). -/
def rowScCapsBk : Row := ⟨.neutral, 0xBA, .lockBreak .caps⟩

/-- SC.CAPS.BK (40_decoder_core_modifiers.md R123). -/
def execScCapsBk (s : State) : Outcome := runScanRow rowScCapsBk s

/-- The entry SC.NUM.MK (40_decoder_core_modifiers.md R124). -/
def rowScNumMk : Row := ⟨.neutral, 0x45, .lockMake .num⟩

/-- SC.NUM.MK (40_decoder_core_modifiers.md R124). -/
def execScNumMk (s : State) : Outcome := runScanRow rowScNumMk s

/-- The entry SC.NUM.BK (40_decoder_core_modifiers.md R125). -/
def rowScNumBk : Row := ⟨.neutral, 0xC5, .lockBreak .num⟩

/-- SC.NUM.BK (40_decoder_core_modifiers.md R125). -/
def execScNumBk (s : State) : Outcome := runScanRow rowScNumBk s

/-- The entry SC.SCROLL.MK (40_decoder_core_modifiers.md R126). -/
def rowScScrollMk : Row := ⟨.neutral, 0x46, .lockMake .scroll⟩

/-- SC.SCROLL.MK (40_decoder_core_modifiers.md R126). -/
def execScScrollMk (s : State) : Outcome := runScanRow rowScScrollMk s

/-- The entry SC.SCROLL.BK (40_decoder_core_modifiers.md R127). -/
def rowScScrollBk : Row := ⟨.neutral, 0xC6, .lockBreak .scroll⟩

/-- SC.SCROLL.BK (40_decoder_core_modifiers.md R127). -/
def execScScrollBk (s : State) : Outcome := runScanRow rowScScrollBk s

/-- The default entry SC.NONE at the key (`st`, `b`) (40_decoder_core_modifiers.md R128). -/
def rowScNone (st : DState) (b : Byte) : Row := ⟨st, b, .unmatched⟩

/-- SC.NONE at the key `k` (40_decoder_core_modifiers.md R128): the state bit is bit 8 of the key, the byte bits 7:0. -/
def execScNone (k : ScanKey) (s : State) : Outcome := runScanRow (rowScNone (stateOfKey k) (byteOfKey k)) s

end Sys2Proof.Machine
end

