-- ==== Sys2Proof/Machine/ScanPrintable.lean ====
section
/-! DEFINITION. The 47 printable entries of the dispatch map (41_decoder_characters.md R140 to R187). -/

namespace Sys2Proof.Machine

/-- The entry SC.K_1 (41_decoder_characters.md R141). -/
def rowScK1 : Row := ⟨.neutral, 0x02, .printable 0x31 0x21⟩

/-- SC.K_1 (41_decoder_characters.md R141). -/
def execScK1 (s : State) : Outcome := runScanRow rowScK1 s

/-- The entry SC.K_2 (41_decoder_characters.md R142). -/
def rowScK2 : Row := ⟨.neutral, 0x03, .printable 0x32 0x40⟩

/-- SC.K_2 (41_decoder_characters.md R142). -/
def execScK2 (s : State) : Outcome := runScanRow rowScK2 s

/-- The entry SC.K_3 (41_decoder_characters.md R143). -/
def rowScK3 : Row := ⟨.neutral, 0x04, .printable 0x33 0x23⟩

/-- SC.K_3 (41_decoder_characters.md R143). -/
def execScK3 (s : State) : Outcome := runScanRow rowScK3 s

/-- The entry SC.K_4 (41_decoder_characters.md R144). -/
def rowScK4 : Row := ⟨.neutral, 0x05, .printable 0x34 0x24⟩

/-- SC.K_4 (41_decoder_characters.md R144). -/
def execScK4 (s : State) : Outcome := runScanRow rowScK4 s

/-- The entry SC.K_5 (41_decoder_characters.md R145). -/
def rowScK5 : Row := ⟨.neutral, 0x06, .printable 0x35 0x25⟩

/-- SC.K_5 (41_decoder_characters.md R145). -/
def execScK5 (s : State) : Outcome := runScanRow rowScK5 s

/-- The entry SC.K_6 (41_decoder_characters.md R146). -/
def rowScK6 : Row := ⟨.neutral, 0x07, .printable 0x36 0x5E⟩

/-- SC.K_6 (41_decoder_characters.md R146). -/
def execScK6 (s : State) : Outcome := runScanRow rowScK6 s

/-- The entry SC.K_7 (41_decoder_characters.md R147). -/
def rowScK7 : Row := ⟨.neutral, 0x08, .printable 0x37 0x26⟩

/-- SC.K_7 (41_decoder_characters.md R147). -/
def execScK7 (s : State) : Outcome := runScanRow rowScK7 s

/-- The entry SC.K_8 (41_decoder_characters.md R148). -/
def rowScK8 : Row := ⟨.neutral, 0x09, .printable 0x38 0x2A⟩

/-- SC.K_8 (41_decoder_characters.md R148). -/
def execScK8 (s : State) : Outcome := runScanRow rowScK8 s

/-- The entry SC.K_9 (41_decoder_characters.md R149). -/
def rowScK9 : Row := ⟨.neutral, 0x0A, .printable 0x39 0x28⟩

/-- SC.K_9 (41_decoder_characters.md R149). -/
def execScK9 (s : State) : Outcome := runScanRow rowScK9 s

/-- The entry SC.K_0 (41_decoder_characters.md R150). -/
def rowScK0 : Row := ⟨.neutral, 0x0B, .printable 0x30 0x29⟩

/-- SC.K_0 (41_decoder_characters.md R150). -/
def execScK0 (s : State) : Outcome := runScanRow rowScK0 s

/-- The entry SC.K_MINUS (41_decoder_characters.md R151). -/
def rowScKMinus : Row := ⟨.neutral, 0x0C, .printable 0x2D 0x5F⟩

/-- SC.K_MINUS (41_decoder_characters.md R151). -/
def execScKMinus (s : State) : Outcome := runScanRow rowScKMinus s

/-- The entry SC.K_EQUAL (41_decoder_characters.md R152). -/
def rowScKEqual : Row := ⟨.neutral, 0x0D, .printable 0x3D 0x2B⟩

/-- SC.K_EQUAL (41_decoder_characters.md R152). -/
def execScKEqual (s : State) : Outcome := runScanRow rowScKEqual s

/-- The entry SC.K_Q (41_decoder_characters.md R153). -/
def rowScKQ : Row := ⟨.neutral, 0x10, .printable 0x71 0x51⟩

/-- SC.K_Q (41_decoder_characters.md R153). -/
def execScKQ (s : State) : Outcome := runScanRow rowScKQ s

/-- The entry SC.K_W (41_decoder_characters.md R154). -/
def rowScKW : Row := ⟨.neutral, 0x11, .printable 0x77 0x57⟩

/-- SC.K_W (41_decoder_characters.md R154). -/
def execScKW (s : State) : Outcome := runScanRow rowScKW s

/-- The entry SC.K_E (41_decoder_characters.md R155). -/
def rowScKE : Row := ⟨.neutral, 0x12, .printable 0x65 0x45⟩

/-- SC.K_E (41_decoder_characters.md R155). -/
def execScKE (s : State) : Outcome := runScanRow rowScKE s

/-- The entry SC.K_R (41_decoder_characters.md R156). -/
def rowScKR : Row := ⟨.neutral, 0x13, .printable 0x72 0x52⟩

/-- SC.K_R (41_decoder_characters.md R156). -/
def execScKR (s : State) : Outcome := runScanRow rowScKR s

/-- The entry SC.K_T (41_decoder_characters.md R157). -/
def rowScKT : Row := ⟨.neutral, 0x14, .printable 0x74 0x54⟩

/-- SC.K_T (41_decoder_characters.md R157). -/
def execScKT (s : State) : Outcome := runScanRow rowScKT s

/-- The entry SC.K_Y (41_decoder_characters.md R158). -/
def rowScKY : Row := ⟨.neutral, 0x15, .printable 0x79 0x59⟩

/-- SC.K_Y (41_decoder_characters.md R158). -/
def execScKY (s : State) : Outcome := runScanRow rowScKY s

/-- The entry SC.K_U (41_decoder_characters.md R159). -/
def rowScKU : Row := ⟨.neutral, 0x16, .printable 0x75 0x55⟩

/-- SC.K_U (41_decoder_characters.md R159). -/
def execScKU (s : State) : Outcome := runScanRow rowScKU s

/-- The entry SC.K_I (41_decoder_characters.md R160). -/
def rowScKI : Row := ⟨.neutral, 0x17, .printable 0x69 0x49⟩

/-- SC.K_I (41_decoder_characters.md R160). -/
def execScKI (s : State) : Outcome := runScanRow rowScKI s

/-- The entry SC.K_O (41_decoder_characters.md R161). -/
def rowScKO : Row := ⟨.neutral, 0x18, .printable 0x6F 0x4F⟩

/-- SC.K_O (41_decoder_characters.md R161). -/
def execScKO (s : State) : Outcome := runScanRow rowScKO s

/-- The entry SC.K_P (41_decoder_characters.md R162). -/
def rowScKP : Row := ⟨.neutral, 0x19, .printable 0x70 0x50⟩

/-- SC.K_P (41_decoder_characters.md R162). -/
def execScKP (s : State) : Outcome := runScanRow rowScKP s

/-- The entry SC.K_LBRACKET (41_decoder_characters.md R163). -/
def rowScKLbracket : Row := ⟨.neutral, 0x1A, .printable 0x5B 0x7B⟩

/-- SC.K_LBRACKET (41_decoder_characters.md R163). -/
def execScKLbracket (s : State) : Outcome := runScanRow rowScKLbracket s

/-- The entry SC.K_RBRACKET (41_decoder_characters.md R164). -/
def rowScKRbracket : Row := ⟨.neutral, 0x1B, .printable 0x5D 0x7D⟩

/-- SC.K_RBRACKET (41_decoder_characters.md R164). -/
def execScKRbracket (s : State) : Outcome := runScanRow rowScKRbracket s

/-- The entry SC.K_A (41_decoder_characters.md R165). -/
def rowScKA : Row := ⟨.neutral, 0x1E, .printable 0x61 0x41⟩

/-- SC.K_A (41_decoder_characters.md R165). -/
def execScKA (s : State) : Outcome := runScanRow rowScKA s

/-- The entry SC.K_S (41_decoder_characters.md R166). -/
def rowScKS : Row := ⟨.neutral, 0x1F, .printable 0x73 0x53⟩

/-- SC.K_S (41_decoder_characters.md R166). -/
def execScKS (s : State) : Outcome := runScanRow rowScKS s

/-- The entry SC.K_D (41_decoder_characters.md R167). -/
def rowScKD : Row := ⟨.neutral, 0x20, .printable 0x64 0x44⟩

/-- SC.K_D (41_decoder_characters.md R167). -/
def execScKD (s : State) : Outcome := runScanRow rowScKD s

/-- The entry SC.K_F (41_decoder_characters.md R168). -/
def rowScKF : Row := ⟨.neutral, 0x21, .printable 0x66 0x46⟩

/-- SC.K_F (41_decoder_characters.md R168). -/
def execScKF (s : State) : Outcome := runScanRow rowScKF s

/-- The entry SC.K_G (41_decoder_characters.md R169). -/
def rowScKG : Row := ⟨.neutral, 0x22, .printable 0x67 0x47⟩

/-- SC.K_G (41_decoder_characters.md R169). -/
def execScKG (s : State) : Outcome := runScanRow rowScKG s

/-- The entry SC.K_H (41_decoder_characters.md R170). -/
def rowScKH : Row := ⟨.neutral, 0x23, .printable 0x68 0x48⟩

/-- SC.K_H (41_decoder_characters.md R170). -/
def execScKH (s : State) : Outcome := runScanRow rowScKH s

/-- The entry SC.K_J (41_decoder_characters.md R171). -/
def rowScKJ : Row := ⟨.neutral, 0x24, .printable 0x6A 0x4A⟩

/-- SC.K_J (41_decoder_characters.md R171). -/
def execScKJ (s : State) : Outcome := runScanRow rowScKJ s

/-- The entry SC.K_K (41_decoder_characters.md R172). -/
def rowScKK : Row := ⟨.neutral, 0x25, .printable 0x6B 0x4B⟩

/-- SC.K_K (41_decoder_characters.md R172). -/
def execScKK (s : State) : Outcome := runScanRow rowScKK s

/-- The entry SC.K_L (41_decoder_characters.md R173). -/
def rowScKL : Row := ⟨.neutral, 0x26, .printable 0x6C 0x4C⟩

/-- SC.K_L (41_decoder_characters.md R173). -/
def execScKL (s : State) : Outcome := runScanRow rowScKL s

/-- The entry SC.K_SEMICOLON (41_decoder_characters.md R174). -/
def rowScKSemicolon : Row := ⟨.neutral, 0x27, .printable 0x3B 0x3A⟩

/-- SC.K_SEMICOLON (41_decoder_characters.md R174). -/
def execScKSemicolon (s : State) : Outcome := runScanRow rowScKSemicolon s

/-- The entry SC.K_QUOTE (41_decoder_characters.md R175). -/
def rowScKQuote : Row := ⟨.neutral, 0x28, .printable 0x27 0x22⟩

/-- SC.K_QUOTE (41_decoder_characters.md R175). -/
def execScKQuote (s : State) : Outcome := runScanRow rowScKQuote s

/-- The entry SC.K_BACKTICK (41_decoder_characters.md R176). -/
def rowScKBacktick : Row := ⟨.neutral, 0x29, .printable 0x60 0x7E⟩

/-- SC.K_BACKTICK (41_decoder_characters.md R176). -/
def execScKBacktick (s : State) : Outcome := runScanRow rowScKBacktick s

/-- The entry SC.K_BACKSLASH (41_decoder_characters.md R177). -/
def rowScKBackslash : Row := ⟨.neutral, 0x2B, .printable 0x5C 0x7C⟩

/-- SC.K_BACKSLASH (41_decoder_characters.md R177). -/
def execScKBackslash (s : State) : Outcome := runScanRow rowScKBackslash s

/-- The entry SC.K_Z (41_decoder_characters.md R178). -/
def rowScKZ : Row := ⟨.neutral, 0x2C, .printable 0x7A 0x5A⟩

/-- SC.K_Z (41_decoder_characters.md R178). -/
def execScKZ (s : State) : Outcome := runScanRow rowScKZ s

/-- The entry SC.K_X (41_decoder_characters.md R179). -/
def rowScKX : Row := ⟨.neutral, 0x2D, .printable 0x78 0x58⟩

/-- SC.K_X (41_decoder_characters.md R179). -/
def execScKX (s : State) : Outcome := runScanRow rowScKX s

/-- The entry SC.K_C (41_decoder_characters.md R180). -/
def rowScKC : Row := ⟨.neutral, 0x2E, .printable 0x63 0x43⟩

/-- SC.K_C (41_decoder_characters.md R180). -/
def execScKC (s : State) : Outcome := runScanRow rowScKC s

/-- The entry SC.K_V (41_decoder_characters.md R181). -/
def rowScKV : Row := ⟨.neutral, 0x2F, .printable 0x76 0x56⟩

/-- SC.K_V (41_decoder_characters.md R181). -/
def execScKV (s : State) : Outcome := runScanRow rowScKV s

/-- The entry SC.K_B (41_decoder_characters.md R182). -/
def rowScKB : Row := ⟨.neutral, 0x30, .printable 0x62 0x42⟩

/-- SC.K_B (41_decoder_characters.md R182). -/
def execScKB (s : State) : Outcome := runScanRow rowScKB s

/-- The entry SC.K_N (41_decoder_characters.md R183). -/
def rowScKN : Row := ⟨.neutral, 0x31, .printable 0x6E 0x4E⟩

/-- SC.K_N (41_decoder_characters.md R183). -/
def execScKN (s : State) : Outcome := runScanRow rowScKN s

/-- The entry SC.K_M (41_decoder_characters.md R184). -/
def rowScKM : Row := ⟨.neutral, 0x32, .printable 0x6D 0x4D⟩

/-- SC.K_M (41_decoder_characters.md R184). -/
def execScKM (s : State) : Outcome := runScanRow rowScKM s

/-- The entry SC.K_COMMA (41_decoder_characters.md R185). -/
def rowScKComma : Row := ⟨.neutral, 0x33, .printable 0x2C 0x3C⟩

/-- SC.K_COMMA (41_decoder_characters.md R185). -/
def execScKComma (s : State) : Outcome := runScanRow rowScKComma s

/-- The entry SC.K_PERIOD (41_decoder_characters.md R186). -/
def rowScKPeriod : Row := ⟨.neutral, 0x34, .printable 0x2E 0x3E⟩

/-- SC.K_PERIOD (41_decoder_characters.md R186). -/
def execScKPeriod (s : State) : Outcome := runScanRow rowScKPeriod s

/-- The entry SC.K_SLASH (41_decoder_characters.md R187). -/
def rowScKSlash : Row := ⟨.neutral, 0x35, .printable 0x2F 0x3F⟩

/-- SC.K_SLASH (41_decoder_characters.md R187). -/
def execScKSlash (s : State) : Outcome := runScanRow rowScKSlash s

end Sys2Proof.Machine
end

