-- ==== Sys2Proof/Machine/Advance.lean ====
section
/-! DEFINITION. ADVANCE: the dispatch over (state, byte) as an explicit finite lookup in the rows of the dispatch map, and
the command (40_decoder_core_modifiers.md R100 to R102). -/

namespace Sys2Proof.Machine

/-- The prefix, modifier and lock rows. -/
def controlRows : List Row :=
  [rowScPrefix, rowScLctrlMk, rowScLctrlBk, rowScRctrlMk, rowScRctrlBk, rowScLshiftMk,
   rowScLshiftBk, rowScRshiftMk, rowScRshiftBk, rowScLaltMk, rowScLaltBk, rowScRaltMk,
   rowScRaltBk, rowScLsuperMk, rowScLsuperBk, rowScRsuperMk, rowScRsuperBk, rowScCapsMk,
   rowScCapsBk, rowScNumMk, rowScNumBk, rowScScrollMk, rowScScrollBk]

/-- The printable rows. -/
def printableRows : List Row :=
  [rowScK1, rowScK2, rowScK3, rowScK4, rowScK5, rowScK6,
   rowScK7, rowScK8, rowScK9, rowScK0, rowScKMinus, rowScKEqual,
   rowScKQ, rowScKW, rowScKE, rowScKR, rowScKT, rowScKY,
   rowScKU, rowScKI, rowScKO, rowScKP, rowScKLbracket, rowScKRbracket,
   rowScKA, rowScKS, rowScKD, rowScKF, rowScKG, rowScKH,
   rowScKJ, rowScKK, rowScKL, rowScKSemicolon, rowScKQuote, rowScKBacktick,
   rowScKBackslash, rowScKZ, rowScKX, rowScKC, rowScKV, rowScKB,
   rowScKN, rowScKM, rowScKComma, rowScKPeriod, rowScKSlash]

/-- The keypad rows. -/
def keypadRows : List Row :=
  [rowScKp7, rowScKp8, rowScKp9, rowScKpMinus, rowScKp4, rowScKp5,
   rowScKp6, rowScKpPlus, rowScKp1, rowScKp2, rowScKp3, rowScKp0,
   rowScKpPeriod]

/-- The functional rows. -/
def functionalRows : List Row :=
  [rowScEsc, rowScBksp, rowScTab, rowScEnter, rowScXenter, rowScSpace]

/-- The dispatch map (40_decoder_core_modifiers.md R102; 30_encoding.md R86). -/
def dispatchMap : List Row := controlRows ++ printableRows ++ keypadRows ++ functionalRows

/-- The entry of the key (`st`, `b`): the row that has it, or the default (40_decoder_core_modifiers.md R102). -/
def dispatchRow (st : DState) (b : Byte) : Row :=
  (dispatchMap.find? fun r => r.state == st && r.byte == b).getD (rowScNone st b)

/-- ADVANCE b, the operation GETCHAR shares: the entry of the pre-transition state and the byte, run
(40_decoder_core_modifiers.md R100). -/
def advance (b : Byte) (s : State) : Option Character × State :=
  applyRow (dispatchRow s.dstate b) s

/-- ADVANCE b (40_decoder_core_modifiers.md R100). -/
def execAdvance (b : Byte) (s : State) : Outcome :=
  runCommand s fun s => let (out, s') := advance b s; .ok (s'.withResult (.character out))

end Sys2Proof.Machine
end

