-- ==== Sys2Proof/Machine/Cursor.lean ====
section
/-! DEFINITION. Newline, scroll, hardware cursor position and shape (43_display_cursor_scroll.md). -/

namespace Sys2Proof.Machine

/-- The blank cell of the current colour (43_display_cursor_scroll.md R242; 42_display_write.md R232). -/
def blankCell (s : State) : CellWord := cellOf s.currentColor Config.blankGlyph

/-- `scroll()`: rows 1 to 24, all read before any cell is written, become rows 0 to 23, and row 24 is blank
(43_display_cursor_scroll.md R242; 70_reset_and_hazards.md R318; log 30). -/
def scroll (s : State) : Run := do
  let kept ← readCells Config.width s (Config.ncells - Config.width)
  .ok { s with cells := storeCells s.cells 0 (kept ++ List.replicate Config.width (blankCell s)) }

/-- `newline_step()` (43_display_cursor_scroll.md R241, R243). -/
def newlineStep (s : State) : Run := do
  let y := s.cursorY.toNat + 1
  let s1 := { s with cursorX := 0 }
  let s2 ←
    if Config.height ≤ y then do
      let scrolled ← scroll s1
      .ok { scrolled with cursorY := BitVec.ofNat 5 (Config.height - 1) }
    else .ok { s1 with cursorY := BitVec.ofNat 5 y }
  if Config.height ≤ s2.cursorY.toNat then raiseAbort .cursorOverflow s2 else .ok s2

/-- NEWLINE (43_display_cursor_scroll.md R241): the hardware cursor is not pushed (log 34). -/
def execNewline (s : State) : Outcome := runCommand s newlineStep

/-- The linear cursor offset (43_display_cursor_scroll.md R244). -/
def cursorOffset (s : State) : Nat := cellIndex s.cursorX.toNat s.cursorY.toNat

/-- A sub-register written: the index, then the data (70_reset_and_hazards.md R314). -/
def writeSubRegister (idx v : Byte) (s : State) : State :=
  portWrite8 Config.crtcDataPort v (portWrite8 Config.crtcIndexPort idx s)

/-- A sub-register read and written again: the index, the data read, the data written (43_display_cursor_scroll.md R245;
70_reset_and_hazards.md R314). -/
def modifySubRegister (idx : Byte) (f : Byte → Byte) (s : State) : State :=
  let (old, s') := portRead8 Config.crtcDataPort (portWrite8 Config.crtcIndexPort idx s)
  portWrite8 Config.crtcDataPort (f old) s'

/-- `update_cursor()`: four port writes, low byte first (43_display_cursor_scroll.md R244; log 35). -/
def updateCursor (s : State) : State :=
  let off := cursorOffset s
  writeSubRegister Config.idxCurHi (offsetHighByte off) (writeSubRegister Config.idxCurLo (offsetLowByte off) s)

/-- UPDATE_CURSOR (43_display_cursor_scroll.md R244). -/
def execUpdateCursor (s : State) : Outcome := runCommand s fun s => .ok (updateCursor s)

/-- The six port accesses of SETSHAPE, start before end (43_display_cursor_scroll.md R245; log 35). -/
def setShape (startLine : BitVec 6) (endLine : BitVec 5) (s : State) : State :=
  modifySubRegister Config.idxCurEnd (fun old => endScanline old endLine)
    (modifySubRegister Config.idxCurStart (fun old => startScanline old startLine) s)

/-- SETSHAPE start, end (43_display_cursor_scroll.md R245). -/
def execSetShape (startLine : BitVec 6) (endLine : BitVec 5) (s : State) : Outcome :=
  runCommand s fun s => .ok (setShape startLine endLine s)

end Sys2Proof.Machine
end

