-- ==== Sys2Proof/Machine/Display.lean ====
section
/-! DEFINITION. The commands that write cells or the colour (42_display_write.md). -/

namespace Sys2Proof.Machine

/-- PUTCHAR's glyph case: the cell at the cursor, whole, then one column on (42_display_write.md R227). -/
def putGlyph (c : Character) (s : State) : Run := do
  let s1 ← cellWrite (cursorOffset s) (cellOf s.currentColor (resolve c)) s
  .ok { s1 with cursorX := BitVec.ofNat 7 (s1.cursorX.toNat + 1) }

/-- PUTCHAR's four cases, in the order they are tested (42_display_write.md R223 to R227). -/
def putcharCase (c : Character) (s : State) : Run :=
  if c = 0x0A then newlineStep s
  else if c = 0x0D then .ok { s with cursorX := 0 }
  else if c = 0x09 then .ok { s with cursorX := BitVec.ofNat 7 (nextTabStop s.cursorX.toNat) }
  else putGlyph c s

/-- PUTCHAR's wrap check, after every case (42_display_write.md R228; log 32). -/
def wrapCheck (s : State) : Run :=
  if Config.width ≤ s.cursorX.toNat then newlineStep s else .ok s

/-- PUTCHAR c: its case, the wrap check, the hardware cursor (42_display_write.md R223, R229). -/
def execPutchar (c : Character) (s : State) : Outcome :=
  runCommand s fun s => do
    let s1 ← putcharCase c s
    let s2 ← wrapCheck s1
    .ok (updateCursor s2)

/-- `WRITE_AT(x, y, g)`: the range check before the write (42_display_write.md R230; log 33). -/
def writeAtRule (x y g : Byte) (s : State) : Run :=
  if Config.width ≤ x.toNat ∨ Config.height ≤ y.toNat then raiseAbort .cellRange s
  else cellWrite (cellIndex x.toNat y.toNat) (cellOf s.currentColor g) s

/-- WRITE_AT x, y, g (42_display_write.md R230). -/
def execWriteAt (x y g : Byte) (s : State) : Outcome := runCommand s (writeAtRule x y g)

/-- WRITE_BYTE x, y, g: the same command (42_display_write.md R231; log 24). -/
def execWriteByte (x y g : Byte) (s : State) : Outcome := runCommand s (writeAtRule x y g)

/-- CLEAR: all 2000 cells blank at the current colour; the cursor stays (42_display_write.md R232; log 30, log 34). -/
def execClear (s : State) : Outcome :=
  runCommand s fun s =>
    .ok { s with cells := storeCells s.cells 0 (List.replicate Config.ncells (blankCell s)) }

/-- SETCOLOR a (42_display_write.md R233). -/
def execSetColor (a : Byte) (s : State) : Outcome :=
  runCommand s fun s => .ok { s with currentColor := a }

end Sys2Proof.Machine
end

