-- ==== Sys2Proof/Machine/Lock.lean ====
section
/-! DEFINITION. The cooperative lock (20_memory.md R55 to R60). -/

namespace Sys2Proof.Machine

/-- LOCK: compare and set in one step, an abort when the lock is held (20_memory.md R55, R60). -/
def execLock (s : State) : Outcome :=
  runCommand s fun s => if s.locked then raiseAbort .doubleLock s else .ok { s with locked := true }

/-- UNLOCK (20_memory.md R56): refused when the lock is not held (D27; log 22). -/
def execUnlock (s : State) : Outcome :=
  if s.aborted = false ∧ s.locked = false then .refused .unlockWhileUnlocked
  else runCommand s fun s => .ok { s with locked := false }

/-- FORCE_LOCK: the lock is taken whatever it was, also after an abort (20_memory.md R58; 60_exceptions.md R286). -/
def execForceLock (s : State) : Outcome := finish (.ok { s.withResult .unit with locked := true })

end Sys2Proof.Machine
end

