-- ==== Sys2Proof/Machine/Poll.lean ====
section
/-! DEFINITION. The keyboard poll and the line editor (44_poll_line_editor.md). -/

namespace Sys2Proof.Machine

/-- GETCHAR: one status read; only if bit 0 is 1, one data read and an ADVANCE (44_poll_line_editor.md R260). -/
def pollKeyboard (s : State) : Option Character × State :=
  let (st, s1) := portRead8 Config.kbdStatusPort s
  if isReady st then
    let (b, s2) := portRead8 Config.kbdDataPort s1
    advance b s2
  else (none, s1)

/-- GETCHAR (44_poll_line_editor.md R260). -/
def execGetChar (s : State) : Outcome :=
  runCommand s fun s => let (out, s') := pollKeyboard s; .ok (s'.withResult (.character out))

/-- `line[i]`. Only `i < 128` is ever read from a state with `len` at most 128 (log 46). -/
def lineByte (s : State) (i : Nat) : Byte := s.line.toList.getD i 0

/-- `line[0 .. len-1]`: the part of the buffer that has meaning (10_state.md R22). -/
def bufferBytes (s : State) : List Byte := s.line.toList.take s.len.toNat

/-- `len` made `n`: the bytes below `n` are kept, and every byte at or above it becomes unspecified, so a free value
(44_poll_line_editor.md R265; 10_state.md R22; log 44). -/
def cutTo (n : Nat) (s : State) : State :=
  { s with
    line := Vector.ofFn fun i => if i.val < n then s.line[i] else Config.freeLineByte s.lineDraws i
    len := BitVec.ofNat 8 n
    lineDraws := s.lineDraws + 1 }

/-- What the line editor answers to one character (44_poll_line_editor.md R263). -/
inductive LineStep where
  | goOn
  | done (bytes : List Byte)
deriving DecidableEq, Repr

/-- `le_enter()` (44_poll_line_editor.md R264). -/
def leEnter (s : State) : LineStep × State := (.done (bufferBytes s), cutTo 0 s)

/-- `le_backspace()` (44_poll_line_editor.md R265). -/
def leBackspace (s : State) : State :=
  if 0 < s.len.toNat then cutTo (s.len.toNat - 1) s else s

/-- The length left when the trailing run of bytes that meet `p` is taken off the first `n` bytes of the buffer: one
`while` of 44_poll_line_editor.md R266. -/
def trimRun (p : Byte → Bool) (s : State) : Nat → Nat
  | 0 => 0
  | n + 1 => if p (lineByte s n) then trimRun p s n else n + 1

/-- `le_word_delete()`: the trailing run of non-whitespace, then one run of whitespace (44_poll_line_editor.md R266). -/
def leWordDelete (s : State) : State :=
  cutTo (trimRun isWhitespace s (trimRun (fun v => !isWhitespace v) s s.len.toNat)) s

/-- `le_append(c)`: one byte, dropped when the buffer is full (44_poll_line_editor.md R267, R268). -/
def leAppend (c : Character) (s : State) : State :=
  if s.len.toNat < Config.lineCap then
    { s with
      line := s.line.setIfInBounds s.len.toNat (c.setWidth 8)
      len := BitVec.ofNat 8 (s.len.toNat + 1) }
  else s

/-- `le_step(c)` (44_poll_line_editor.md R263). -/
def leStep (c : Character) (s : State) : LineStep × State :=
  if c = 0x0A then leEnter s
  else if c = 0x08 then
    if s.mods.ctrlHeld then (.goOn, leWordDelete s) else (.goOn, leBackspace s)
  else (.goOn, leAppend c s)

/-- GETLINE goes on: it stays in progress and has returned nothing yet (44_poll_line_editor.md R269; log 3). -/
def lineGoesOn (s : State) : State := { s with lineActive := true, result := .unit }

/-- GETLINE ends with the completed line (44_poll_line_editor.md R264, R269). -/
def lineDone (bytes : List Byte) (s : State) : State :=
  { s with lineActive := false, result := .line bytes }

/-- One turn of GETLINE's loop: a GETCHAR, and the line editor's reaction to what it yields
(44_poll_line_editor.md R269; log 3). -/
def getLineTurn (s : State) : State :=
  match pollKeyboard s with
  | (none, s1) => lineGoesOn s1
  | (some c, s1) =>
    match leStep c s1 with
    | (.goOn, s2) => lineGoesOn s2
    | (.done bytes, s2) => lineDone bytes s2

/-- GETLINE, one turn a step until Enter arrives (44_poll_line_editor.md R269; log 3). -/
def execGetLine (s : State) : Outcome := runCommand s fun s => .ok (getLineTurn s)

/-- LE_RESET (44_poll_line_editor.md R270). -/
def execLeReset (s : State) : Outcome := runCommand s fun s => .ok (cutTo 0 s)

end Sys2Proof.Machine
end

