-- ==== Sys2Proof/Machine/Reserved.lean ====
section
/-! DEFINITION. The reserved command words (30_encoding.md R83). -/

namespace Sys2Proof.Machine

/-- A word with op 0xE spells no command: refused, no abort, no state change (30_encoding.md R83; log 23). -/
def execCmdReservedE (_r : BitVec 28) (_s : State) : Outcome := .refused .reservedCommandE

/-- A word with op 0xF spells no command: refused, no abort, no state change (30_encoding.md R83; log 23). -/
def execCmdReservedF (_r : BitVec 28) (_s : State) : Outcome := .refused .reservedCommandF

end Sys2Proof.Machine
end

