-- ==== Sys2Proof/Syntax.lean ====
section
/-! DEFINITION. The instructions: one constructor for each row of spec/opcode_table.json, in the table's order. The rows of
format SC are the entries of the dispatch map (30_encoding.md R72, R73, R78 to R81); the rows of format CMD are the
commands (30_encoding.md R82, R83). -/

namespace Sys2Proof

/-- One constructor for each row of spec/opcode_table.json. -/
inductive Instr where
  /-- SC.PREFIX: key 0x0E0 (Neutral, 0xE0), 40_decoder_core_modifiers.md R103. -/
  | scPrefix
  /-- SC.LCTRL.MK: key 0x01D (Neutral, 0x1D), 40_decoder_core_modifiers.md R105. -/
  | scLctrlMk
  /-- SC.LCTRL.BK: key 0x09D (Neutral, 0x9D), 40_decoder_core_modifiers.md R106. -/
  | scLctrlBk
  /-- SC.RCTRL.MK: key 0x11D (ExtendedPrefixSeen, 0x1D), 40_decoder_core_modifiers.md R107. -/
  | scRctrlMk
  /-- SC.RCTRL.BK: key 0x19D (ExtendedPrefixSeen, 0x9D), 40_decoder_core_modifiers.md R108. -/
  | scRctrlBk
  /-- SC.LSHIFT.MK: key 0x02A (Neutral, 0x2A), 40_decoder_core_modifiers.md R109. -/
  | scLshiftMk
  /-- SC.LSHIFT.BK: key 0x0AA (Neutral, 0xAA), 40_decoder_core_modifiers.md R110. -/
  | scLshiftBk
  /-- SC.RSHIFT.MK: key 0x036 (Neutral, 0x36), 40_decoder_core_modifiers.md R111. -/
  | scRshiftMk
  /-- SC.RSHIFT.BK: key 0x0B6 (Neutral, 0xB6), 40_decoder_core_modifiers.md R112. -/
  | scRshiftBk
  /-- SC.LALT.MK: key 0x038 (Neutral, 0x38), 40_decoder_core_modifiers.md R113. -/
  | scLaltMk
  /-- SC.LALT.BK: key 0x0B8 (Neutral, 0xB8), 40_decoder_core_modifiers.md R114. -/
  | scLaltBk
  /-- SC.RALT.MK: key 0x138 (ExtendedPrefixSeen, 0x38), 40_decoder_core_modifiers.md R115. -/
  | scRaltMk
  /-- SC.RALT.BK: key 0x1B8 (ExtendedPrefixSeen, 0xB8), 40_decoder_core_modifiers.md R116. -/
  | scRaltBk
  /-- SC.LSUPER.MK: key 0x15B (ExtendedPrefixSeen, 0x5B), 40_decoder_core_modifiers.md R117. -/
  | scLsuperMk
  /-- SC.LSUPER.BK: key 0x1DB (ExtendedPrefixSeen, 0xDB), 40_decoder_core_modifiers.md R118. -/
  | scLsuperBk
  /-- SC.RSUPER.MK: key 0x15C (ExtendedPrefixSeen, 0x5C), 40_decoder_core_modifiers.md R119. -/
  | scRsuperMk
  /-- SC.RSUPER.BK: key 0x1DC (ExtendedPrefixSeen, 0xDC), 40_decoder_core_modifiers.md R120. -/
  | scRsuperBk
  /-- SC.CAPS.MK: key 0x03A (Neutral, 0x3A), 40_decoder_core_modifiers.md R122. -/
  | scCapsMk
  /-- SC.CAPS.BK: key 0x0BA (Neutral, 0xBA), 40_decoder_core_modifiers.md R123. -/
  | scCapsBk
  /-- SC.NUM.MK: key 0x045 (Neutral, 0x45), 40_decoder_core_modifiers.md R124. -/
  | scNumMk
  /-- SC.NUM.BK: key 0x0C5 (Neutral, 0xC5), 40_decoder_core_modifiers.md R125. -/
  | scNumBk
  /-- SC.SCROLL.MK: key 0x046 (Neutral, 0x46), 40_decoder_core_modifiers.md R126. -/
  | scScrollMk
  /-- SC.SCROLL.BK: key 0x0C6 (Neutral, 0xC6), 40_decoder_core_modifiers.md R127. -/
  | scScrollBk
  /-- SC.K_1: key 0x002 (Neutral, 0x02), 41_decoder_characters.md R141. -/
  | scK1
  /-- SC.K_2: key 0x003 (Neutral, 0x03), 41_decoder_characters.md R142. -/
  | scK2
  /-- SC.K_3: key 0x004 (Neutral, 0x04), 41_decoder_characters.md R143. -/
  | scK3
  /-- SC.K_4: key 0x005 (Neutral, 0x05), 41_decoder_characters.md R144. -/
  | scK4
  /-- SC.K_5: key 0x006 (Neutral, 0x06), 41_decoder_characters.md R145. -/
  | scK5
  /-- SC.K_6: key 0x007 (Neutral, 0x07), 41_decoder_characters.md R146. -/
  | scK6
  /-- SC.K_7: key 0x008 (Neutral, 0x08), 41_decoder_characters.md R147. -/
  | scK7
  /-- SC.K_8: key 0x009 (Neutral, 0x09), 41_decoder_characters.md R148. -/
  | scK8
  /-- SC.K_9: key 0x00A (Neutral, 0x0A), 41_decoder_characters.md R149. -/
  | scK9
  /-- SC.K_0: key 0x00B (Neutral, 0x0B), 41_decoder_characters.md R150. -/
  | scK0
  /-- SC.K_MINUS: key 0x00C (Neutral, 0x0C), 41_decoder_characters.md R151. -/
  | scKMinus
  /-- SC.K_EQUAL: key 0x00D (Neutral, 0x0D), 41_decoder_characters.md R152. -/
  | scKEqual
  /-- SC.K_Q: key 0x010 (Neutral, 0x10), 41_decoder_characters.md R153. -/
  | scKQ
  /-- SC.K_W: key 0x011 (Neutral, 0x11), 41_decoder_characters.md R154. -/
  | scKW
  /-- SC.K_E: key 0x012 (Neutral, 0x12), 41_decoder_characters.md R155. -/
  | scKE
  /-- SC.K_R: key 0x013 (Neutral, 0x13), 41_decoder_characters.md R156. -/
  | scKR
  /-- SC.K_T: key 0x014 (Neutral, 0x14), 41_decoder_characters.md R157. -/
  | scKT
  /-- SC.K_Y: key 0x015 (Neutral, 0x15), 41_decoder_characters.md R158. -/
  | scKY
  /-- SC.K_U: key 0x016 (Neutral, 0x16), 41_decoder_characters.md R159. -/
  | scKU
  /-- SC.K_I: key 0x017 (Neutral, 0x17), 41_decoder_characters.md R160. -/
  | scKI
  /-- SC.K_O: key 0x018 (Neutral, 0x18), 41_decoder_characters.md R161. -/
  | scKO
  /-- SC.K_P: key 0x019 (Neutral, 0x19), 41_decoder_characters.md R162. -/
  | scKP
  /-- SC.K_LBRACKET: key 0x01A (Neutral, 0x1A), 41_decoder_characters.md R163. -/
  | scKLbracket
  /-- SC.K_RBRACKET: key 0x01B (Neutral, 0x1B), 41_decoder_characters.md R164. -/
  | scKRbracket
  /-- SC.K_A: key 0x01E (Neutral, 0x1E), 41_decoder_characters.md R165. -/
  | scKA
  /-- SC.K_S: key 0x01F (Neutral, 0x1F), 41_decoder_characters.md R166. -/
  | scKS
  /-- SC.K_D: key 0x020 (Neutral, 0x20), 41_decoder_characters.md R167. -/
  | scKD
  /-- SC.K_F: key 0x021 (Neutral, 0x21), 41_decoder_characters.md R168. -/
  | scKF
  /-- SC.K_G: key 0x022 (Neutral, 0x22), 41_decoder_characters.md R169. -/
  | scKG
  /-- SC.K_H: key 0x023 (Neutral, 0x23), 41_decoder_characters.md R170. -/
  | scKH
  /-- SC.K_J: key 0x024 (Neutral, 0x24), 41_decoder_characters.md R171. -/
  | scKJ
  /-- SC.K_K: key 0x025 (Neutral, 0x25), 41_decoder_characters.md R172. -/
  | scKK
  /-- SC.K_L: key 0x026 (Neutral, 0x26), 41_decoder_characters.md R173. -/
  | scKL
  /-- SC.K_SEMICOLON: key 0x027 (Neutral, 0x27), 41_decoder_characters.md R174. -/
  | scKSemicolon
  /-- SC.K_QUOTE: key 0x028 (Neutral, 0x28), 41_decoder_characters.md R175. -/
  | scKQuote
  /-- SC.K_BACKTICK: key 0x029 (Neutral, 0x29), 41_decoder_characters.md R176. -/
  | scKBacktick
  /-- SC.K_BACKSLASH: key 0x02B (Neutral, 0x2B), 41_decoder_characters.md R177. -/
  | scKBackslash
  /-- SC.K_Z: key 0x02C (Neutral, 0x2C), 41_decoder_characters.md R178. -/
  | scKZ
  /-- SC.K_X: key 0x02D (Neutral, 0x2D), 41_decoder_characters.md R179. -/
  | scKX
  /-- SC.K_C: key 0x02E (Neutral, 0x2E), 41_decoder_characters.md R180. -/
  | scKC
  /-- SC.K_V: key 0x02F (Neutral, 0x2F), 41_decoder_characters.md R181. -/
  | scKV
  /-- SC.K_B: key 0x030 (Neutral, 0x30), 41_decoder_characters.md R182. -/
  | scKB
  /-- SC.K_N: key 0x031 (Neutral, 0x31), 41_decoder_characters.md R183. -/
  | scKN
  /-- SC.K_M: key 0x032 (Neutral, 0x32), 41_decoder_characters.md R184. -/
  | scKM
  /-- SC.K_COMMA: key 0x033 (Neutral, 0x33), 41_decoder_characters.md R185. -/
  | scKComma
  /-- SC.K_PERIOD: key 0x034 (Neutral, 0x34), 41_decoder_characters.md R186. -/
  | scKPeriod
  /-- SC.K_SLASH: key 0x035 (Neutral, 0x35), 41_decoder_characters.md R187. -/
  | scKSlash
  /-- SC.KP_7: key 0x047 (Neutral, 0x47), 41_decoder_characters.md R189. -/
  | scKp7
  /-- SC.KP_8: key 0x048 (Neutral, 0x48), 41_decoder_characters.md R190. -/
  | scKp8
  /-- SC.KP_9: key 0x049 (Neutral, 0x49), 41_decoder_characters.md R191. -/
  | scKp9
  /-- SC.KP_MINUS: key 0x04A (Neutral, 0x4A), 41_decoder_characters.md R192. -/
  | scKpMinus
  /-- SC.KP_4: key 0x04B (Neutral, 0x4B), 41_decoder_characters.md R193. -/
  | scKp4
  /-- SC.KP_5: key 0x04C (Neutral, 0x4C), 41_decoder_characters.md R194. -/
  | scKp5
  /-- SC.KP_6: key 0x04D (Neutral, 0x4D), 41_decoder_characters.md R195. -/
  | scKp6
  /-- SC.KP_PLUS: key 0x04E (Neutral, 0x4E), 41_decoder_characters.md R196. -/
  | scKpPlus
  /-- SC.KP_1: key 0x04F (Neutral, 0x4F), 41_decoder_characters.md R197. -/
  | scKp1
  /-- SC.KP_2: key 0x050 (Neutral, 0x50), 41_decoder_characters.md R198. -/
  | scKp2
  /-- SC.KP_3: key 0x051 (Neutral, 0x51), 41_decoder_characters.md R199. -/
  | scKp3
  /-- SC.KP_0: key 0x052 (Neutral, 0x52), 41_decoder_characters.md R200. -/
  | scKp0
  /-- SC.KP_PERIOD: key 0x053 (Neutral, 0x53), 41_decoder_characters.md R201. -/
  | scKpPeriod
  /-- SC.ESC: key 0x001 (Neutral, 0x01), 41_decoder_characters.md R207. -/
  | scEsc
  /-- SC.BKSP: key 0x00E (Neutral, 0x0E), 41_decoder_characters.md R205. -/
  | scBksp
  /-- SC.TAB: key 0x00F (Neutral, 0x0F), 41_decoder_characters.md R206. -/
  | scTab
  /-- SC.ENTER: key 0x01C (Neutral, 0x1C), 41_decoder_characters.md R203. -/
  | scEnter
  /-- SC.XENTER: key 0x11C (ExtendedPrefixSeen, 0x1C), 41_decoder_characters.md R204. -/
  | scXenter
  /-- SC.SPACE: key 0x039 (Neutral, 0x39), 41_decoder_characters.md R202. -/
  | scSpace
  /-- SC.NONE: the default entry, at the key `k` that no other row has, 40_decoder_core_modifiers.md R128. -/
  | scNone (k : ScanKey)
  /-- PUTCHAR c: 42_display_write.md R223. -/
  | putchar (c : Character)
  /-- NEWLINE: 43_display_cursor_scroll.md R241. -/
  | newline
  /-- WRITE_AT x, y, g: 42_display_write.md R230. -/
  | writeAt (x : Byte) (y : Byte) (g : Byte)
  /-- WRITE_BYTE x, y, g: a second name of WRITE_AT's words, 42_display_write.md R231 (log 24). -/
  | writeByte (x : Byte) (y : Byte) (g : Byte)
  /-- CLEAR: 42_display_write.md R232. -/
  | clear
  /-- SETCOLOR a: 42_display_write.md R233. -/
  | setColor (a : Byte)
  /-- SETSHAPE start, end: 43_display_cursor_scroll.md R245. -/
  | setShape (startLine : BitVec 6) (endLine : BitVec 5)
  /-- UPDATE_CURSOR: 43_display_cursor_scroll.md R244. -/
  | updateCursor
  /-- GETCHAR: 44_poll_line_editor.md R260. -/
  | getChar
  /-- GETLINE: 44_poll_line_editor.md R269. -/
  | getLine
  /-- LOCK: 20_memory.md R55. -/
  | lock
  /-- UNLOCK: 20_memory.md R56. -/
  | unlock
  /-- FORCE_LOCK: 20_memory.md R58. -/
  | forceLock
  /-- LE_RESET: 44_poll_line_editor.md R270. -/
  | leReset
  /-- ADVANCE b: 40_decoder_core_modifiers.md R100. -/
  | advance (b : Byte)
  /-- CMD.RESERVED_E: 30_encoding.md R83. -/
  | cmdReservedE (r : BitVec 28)
  /-- CMD.RESERVED_F: 30_encoding.md R83. -/
  | cmdReservedF (r : BitVec 28)
deriving DecidableEq, Repr

/-- The two things the host can hand to the decoder: a dispatch key (format SC) or a command word (format CMD)
(30_encoding.md R70). -/
inductive Code where
  | key (k : ScanKey)
  | word (w : Word)
deriving DecidableEq, Repr

/-- The name under which the decoder reads an instruction's own encoding back: WRITE_BYTE is WRITE_AT, every other
instruction is itself (30_encoding.md R85 (a); log 24). -/
def Instr.canonical : Instr → Instr
  | .writeByte x y g => .writeAt x y g
  | i => i

end Sys2Proof
end

