-- ==== Sys2Proof/Machine/Dispatch.lean ====
section
/-! DEFINITION. One arm for each instruction, each one call of its meaning. -/

namespace Sys2Proof.Machine
open Sys2Proof

def exec (i : Instr) (s : State) : Host.Outcome State Fault Refusal :=
  match i with
  | .scPrefix => Sys2Proof.Machine.execScPrefix s
  | .scLctrlMk => Sys2Proof.Machine.execScLctrlMk s
  | .scLctrlBk => Sys2Proof.Machine.execScLctrlBk s
  | .scRctrlMk => Sys2Proof.Machine.execScRctrlMk s
  | .scRctrlBk => Sys2Proof.Machine.execScRctrlBk s
  | .scLshiftMk => Sys2Proof.Machine.execScLshiftMk s
  | .scLshiftBk => Sys2Proof.Machine.execScLshiftBk s
  | .scRshiftMk => Sys2Proof.Machine.execScRshiftMk s
  | .scRshiftBk => Sys2Proof.Machine.execScRshiftBk s
  | .scLaltMk => Sys2Proof.Machine.execScLaltMk s
  | .scLaltBk => Sys2Proof.Machine.execScLaltBk s
  | .scRaltMk => Sys2Proof.Machine.execScRaltMk s
  | .scRaltBk => Sys2Proof.Machine.execScRaltBk s
  | .scLsuperMk => Sys2Proof.Machine.execScLsuperMk s
  | .scLsuperBk => Sys2Proof.Machine.execScLsuperBk s
  | .scRsuperMk => Sys2Proof.Machine.execScRsuperMk s
  | .scRsuperBk => Sys2Proof.Machine.execScRsuperBk s
  | .scCapsMk => Sys2Proof.Machine.execScCapsMk s
  | .scCapsBk => Sys2Proof.Machine.execScCapsBk s
  | .scNumMk => Sys2Proof.Machine.execScNumMk s
  | .scNumBk => Sys2Proof.Machine.execScNumBk s
  | .scScrollMk => Sys2Proof.Machine.execScScrollMk s
  | .scScrollBk => Sys2Proof.Machine.execScScrollBk s
  | .scK1 => Sys2Proof.Machine.execScK1 s
  | .scK2 => Sys2Proof.Machine.execScK2 s
  | .scK3 => Sys2Proof.Machine.execScK3 s
  | .scK4 => Sys2Proof.Machine.execScK4 s
  | .scK5 => Sys2Proof.Machine.execScK5 s
  | .scK6 => Sys2Proof.Machine.execScK6 s
  | .scK7 => Sys2Proof.Machine.execScK7 s
  | .scK8 => Sys2Proof.Machine.execScK8 s
  | .scK9 => Sys2Proof.Machine.execScK9 s
  | .scK0 => Sys2Proof.Machine.execScK0 s
  | .scKMinus => Sys2Proof.Machine.execScKMinus s
  | .scKEqual => Sys2Proof.Machine.execScKEqual s
  | .scKQ => Sys2Proof.Machine.execScKQ s
  | .scKW => Sys2Proof.Machine.execScKW s
  | .scKE => Sys2Proof.Machine.execScKE s
  | .scKR => Sys2Proof.Machine.execScKR s
  | .scKT => Sys2Proof.Machine.execScKT s
  | .scKY => Sys2Proof.Machine.execScKY s
  | .scKU => Sys2Proof.Machine.execScKU s
  | .scKI => Sys2Proof.Machine.execScKI s
  | .scKO => Sys2Proof.Machine.execScKO s
  | .scKP => Sys2Proof.Machine.execScKP s
  | .scKLbracket => Sys2Proof.Machine.execScKLbracket s
  | .scKRbracket => Sys2Proof.Machine.execScKRbracket s
  | .scKA => Sys2Proof.Machine.execScKA s
  | .scKS => Sys2Proof.Machine.execScKS s
  | .scKD => Sys2Proof.Machine.execScKD s
  | .scKF => Sys2Proof.Machine.execScKF s
  | .scKG => Sys2Proof.Machine.execScKG s
  | .scKH => Sys2Proof.Machine.execScKH s
  | .scKJ => Sys2Proof.Machine.execScKJ s
  | .scKK => Sys2Proof.Machine.execScKK s
  | .scKL => Sys2Proof.Machine.execScKL s
  | .scKSemicolon => Sys2Proof.Machine.execScKSemicolon s
  | .scKQuote => Sys2Proof.Machine.execScKQuote s
  | .scKBacktick => Sys2Proof.Machine.execScKBacktick s
  | .scKBackslash => Sys2Proof.Machine.execScKBackslash s
  | .scKZ => Sys2Proof.Machine.execScKZ s
  | .scKX => Sys2Proof.Machine.execScKX s
  | .scKC => Sys2Proof.Machine.execScKC s
  | .scKV => Sys2Proof.Machine.execScKV s
  | .scKB => Sys2Proof.Machine.execScKB s
  | .scKN => Sys2Proof.Machine.execScKN s
  | .scKM => Sys2Proof.Machine.execScKM s
  | .scKComma => Sys2Proof.Machine.execScKComma s
  | .scKPeriod => Sys2Proof.Machine.execScKPeriod s
  | .scKSlash => Sys2Proof.Machine.execScKSlash s
  | .scKp7 => Sys2Proof.Machine.execScKp7 s
  | .scKp8 => Sys2Proof.Machine.execScKp8 s
  | .scKp9 => Sys2Proof.Machine.execScKp9 s
  | .scKpMinus => Sys2Proof.Machine.execScKpMinus s
  | .scKp4 => Sys2Proof.Machine.execScKp4 s
  | .scKp5 => Sys2Proof.Machine.execScKp5 s
  | .scKp6 => Sys2Proof.Machine.execScKp6 s
  | .scKpPlus => Sys2Proof.Machine.execScKpPlus s
  | .scKp1 => Sys2Proof.Machine.execScKp1 s
  | .scKp2 => Sys2Proof.Machine.execScKp2 s
  | .scKp3 => Sys2Proof.Machine.execScKp3 s
  | .scKp0 => Sys2Proof.Machine.execScKp0 s
  | .scKpPeriod => Sys2Proof.Machine.execScKpPeriod s
  | .scEsc => Sys2Proof.Machine.execScEsc s
  | .scBksp => Sys2Proof.Machine.execScBksp s
  | .scTab => Sys2Proof.Machine.execScTab s
  | .scEnter => Sys2Proof.Machine.execScEnter s
  | .scXenter => Sys2Proof.Machine.execScXenter s
  | .scSpace => Sys2Proof.Machine.execScSpace s
  | .scNone k => Sys2Proof.Machine.execScNone k s
  | .putchar c => Sys2Proof.Machine.execPutchar c s
  | .newline => Sys2Proof.Machine.execNewline s
  | .writeAt x y g => Sys2Proof.Machine.execWriteAt x y g s
  | .writeByte x y g => Sys2Proof.Machine.execWriteByte x y g s
  | .clear => Sys2Proof.Machine.execClear s
  | .setColor a => Sys2Proof.Machine.execSetColor a s
  | .setShape startLine endLine => Sys2Proof.Machine.execSetShape startLine endLine s
  | .updateCursor => Sys2Proof.Machine.execUpdateCursor s
  | .getChar => Sys2Proof.Machine.execGetChar s
  | .getLine => Sys2Proof.Machine.execGetLine s
  | .lock => Sys2Proof.Machine.execLock s
  | .unlock => Sys2Proof.Machine.execUnlock s
  | .forceLock => Sys2Proof.Machine.execForceLock s
  | .leReset => Sys2Proof.Machine.execLeReset s
  | .advance b => Sys2Proof.Machine.execAdvance b s
  | .cmdReservedE r => Sys2Proof.Machine.execCmdReservedE r s
  | .cmdReservedF r => Sys2Proof.Machine.execCmdReservedF r s

end Sys2Proof.Machine
end

