-- ==== Sys2Proof/WellFormed.lean ====
section
/-! DEFINITION. Which terms of `Instr` stand for something the block can be given. -/

namespace Sys2Proof

/-- The keys of the dispatch map that have an entry of their own, as ranges (30_encoding.md R73, R78 to R81): 80 under
`Neutral`, 9 under `ExtendedPrefixSeen` (R86). -/
def ScanKey.isKeyed (k : ScanKey) : Bool :=
  let n := k.toNat
  (0x001 ≤ n && n ≤ 0x036) || (0x038 ≤ n && n ≤ 0x03A) || (0x045 ≤ n && n ≤ 0x053)
    || [0x09D, 0x0AA, 0x0B6, 0x0B8, 0x0BA, 0x0C5, 0x0C6, 0x0E0].contains n
    || [0x11C, 0x11D, 0x138, 0x15B, 0x15C, 0x19D, 0x1B8, 0x1DB, 0x1DC].contains n

/-- An instruction is well-formed unless it is a PUTCHAR of something that is no Unicode scalar value (30_encoding.md R83)
or an SC.NONE at a key that has an entry of its own (30_encoding.md R81). Every other operand is exactly as wide as its
field, so every term is well-formed. -/
def Instr.wellFormed : Instr → Bool
  | .putchar c => decide (Character.isScalar c)
  | .scNone k => !k.isKeyed
  | _ => true

end Sys2Proof
end

