-- ==== Sys2Proof/Decode.lean ====
section
/-! DEFINITION. The decoder, from a dispatch key or a command word to an instruction or a named rejection
(30_encoding.md R72, R82, R83), the encoder back, and the host's view of the decoder over the words of
spec/opcode_table.json. -/

namespace Sys2Proof

/-- Why a command word spells no command (30_encoding.md R83). -/
inductive DecodeError where
  /-- A non-zero bit outside the fields of its row. -/
  | nonZeroReservedBits (w : Word)
  /-- A PUTCHAR whose operand is no Unicode scalar value. -/
  | notScalarValue (w : Word)
deriving DecidableEq, Repr

/-- The prefix, modifier and lock rows (30_encoding.md R73, R78). -/
def controlKeyMap : List (ScanKey × Instr) :=
  [(0x0E0, .scPrefix), (0x01D, .scLctrlMk), (0x09D, .scLctrlBk), (0x11D, .scRctrlMk),
   (0x19D, .scRctrlBk), (0x02A, .scLshiftMk), (0x0AA, .scLshiftBk), (0x036, .scRshiftMk),
   (0x0B6, .scRshiftBk), (0x038, .scLaltMk), (0x0B8, .scLaltBk), (0x138, .scRaltMk),
   (0x1B8, .scRaltBk), (0x15B, .scLsuperMk), (0x1DB, .scLsuperBk), (0x15C, .scRsuperMk),
   (0x1DC, .scRsuperBk), (0x03A, .scCapsMk), (0x0BA, .scCapsBk), (0x045, .scNumMk),
   (0x0C5, .scNumBk), (0x046, .scScrollMk), (0x0C6, .scScrollBk)]

/-- The 47 printable rows (30_encoding.md R79). -/
def printableKeyMap : List (ScanKey × Instr) :=
  [(0x002, .scK1), (0x003, .scK2), (0x004, .scK3), (0x005, .scK4),
   (0x006, .scK5), (0x007, .scK6), (0x008, .scK7), (0x009, .scK8),
   (0x00A, .scK9), (0x00B, .scK0), (0x00C, .scKMinus), (0x00D, .scKEqual),
   (0x010, .scKQ), (0x011, .scKW), (0x012, .scKE), (0x013, .scKR),
   (0x014, .scKT), (0x015, .scKY), (0x016, .scKU), (0x017, .scKI),
   (0x018, .scKO), (0x019, .scKP), (0x01A, .scKLbracket), (0x01B, .scKRbracket),
   (0x01E, .scKA), (0x01F, .scKS), (0x020, .scKD), (0x021, .scKF),
   (0x022, .scKG), (0x023, .scKH), (0x024, .scKJ), (0x025, .scKK),
   (0x026, .scKL), (0x027, .scKSemicolon), (0x028, .scKQuote), (0x029, .scKBacktick),
   (0x02B, .scKBackslash), (0x02C, .scKZ), (0x02D, .scKX), (0x02E, .scKC),
   (0x02F, .scKV), (0x030, .scKB), (0x031, .scKN), (0x032, .scKM),
   (0x033, .scKComma), (0x034, .scKPeriod), (0x035, .scKSlash)]

/-- The 13 keypad rows (30_encoding.md R80). -/
def keypadKeyMap : List (ScanKey × Instr) :=
  [(0x047, .scKp7), (0x048, .scKp8), (0x049, .scKp9), (0x04A, .scKpMinus),
   (0x04B, .scKp4), (0x04C, .scKp5), (0x04D, .scKp6), (0x04E, .scKpPlus),
   (0x04F, .scKp1), (0x050, .scKp2), (0x051, .scKp3), (0x052, .scKp0),
   (0x053, .scKpPeriod)]

/-- The 6 functional rows (30_encoding.md R78). -/
def functionalKeyMap : List (ScanKey × Instr) :=
  [(0x001, .scEsc), (0x00E, .scBksp), (0x00F, .scTab), (0x01C, .scEnter),
   (0x11C, .scXenter), (0x039, .scSpace)]

/-- The dispatch map as a map of keys to rows: the 89 keys that have a row of their own (30_encoding.md R86). -/
def keyMap : List (ScanKey × Instr) :=
  controlKeyMap ++ printableKeyMap ++ keypadKeyMap ++ functionalKeyMap

/-- The row a dispatch key selects: its own, or SC.NONE (30_encoding.md R72, R81). -/
def decodeKey (k : ScanKey) : Instr :=
  (keyMap.lookup k).getD (.scNone k)

/-- `i`, if the bits of `w` that `mask` names are all zero: "every bit not named is zero" (30_encoding.md R82, R83). -/
def withZeroBits (mask w : Word) (i : Instr) : Except DecodeError Instr :=
  if w &&& mask = 0 then .ok i else .error (.nonZeroReservedBits w)

/-- PUTCHAR's operand must be a scalar value (30_encoding.md R83). -/
def decodePutchar (w : Word) : Except DecodeError Instr :=
  if Character.isScalar (w.extractLsb' 0 21) then withZeroBits 0x0FE00000 w (.putchar (w.extractLsb' 0 21))
  else if w &&& 0x0FE00000 = 0 then .error (.notScalarValue w) else .error (.nonZeroReservedBits w)

/-- The command a command word spells: bits 31:28 are the op (30_encoding.md R82). -/
def decodeCommand (w : Word) : Except DecodeError Instr :=
  match (w.extractLsb' 28 4).toNat with
  | 0x0 => decodePutchar w
  | 0x1 => withZeroBits 0x0FFFFFFF w .newline
  | 0x2 => withZeroBits 0x0F000000 w (.writeAt (w.extractLsb' 8 8) (w.extractLsb' 16 8) (w.extractLsb' 0 8))
  | 0x3 => withZeroBits 0x0FFFFFFF w .clear
  | 0x4 => withZeroBits 0x0FFFFF00 w (.setColor (w.extractLsb' 0 8))
  | 0x5 => withZeroBits 0x0FFFE0C0 w (.setShape (w.extractLsb' 0 6) (w.extractLsb' 8 5))
  | 0x6 => withZeroBits 0x0FFFFFFF w .updateCursor
  | 0x7 => withZeroBits 0x0FFFFFFF w .getChar
  | 0x8 => withZeroBits 0x0FFFFFFF w .getLine
  | 0x9 => withZeroBits 0x0FFFFFFF w .lock
  | 0xA => withZeroBits 0x0FFFFFFF w .unlock
  | 0xB => withZeroBits 0x0FFFFFFF w .forceLock
  | 0xC => withZeroBits 0x0FFFFFFF w .leReset
  | 0xD => withZeroBits 0x0FFFFF00 w (.advance (w.extractLsb' 0 8))
  | 0xE => .ok (.cmdReservedE (w.extractLsb' 0 28))
  | _ => .ok (.cmdReservedF (w.extractLsb' 0 28))

/-- The decoder: total, over every dispatch key and every command word. -/
def decode : Code → Except DecodeError Instr
  | .key k => .ok (decodeKey k)
  | .word w => decodeCommand w

/-- The encoder: the key or the command word of each instruction (30_encoding.md R73, R78 to R82). -/
def encode : Instr → Code
  | .scPrefix => .key 0x0E0
  | .scLctrlMk => .key 0x01D
  | .scLctrlBk => .key 0x09D
  | .scRctrlMk => .key 0x11D
  | .scRctrlBk => .key 0x19D
  | .scLshiftMk => .key 0x02A
  | .scLshiftBk => .key 0x0AA
  | .scRshiftMk => .key 0x036
  | .scRshiftBk => .key 0x0B6
  | .scLaltMk => .key 0x038
  | .scLaltBk => .key 0x0B8
  | .scRaltMk => .key 0x138
  | .scRaltBk => .key 0x1B8
  | .scLsuperMk => .key 0x15B
  | .scLsuperBk => .key 0x1DB
  | .scRsuperMk => .key 0x15C
  | .scRsuperBk => .key 0x1DC
  | .scCapsMk => .key 0x03A
  | .scCapsBk => .key 0x0BA
  | .scNumMk => .key 0x045
  | .scNumBk => .key 0x0C5
  | .scScrollMk => .key 0x046
  | .scScrollBk => .key 0x0C6
  | .scK1 => .key 0x002
  | .scK2 => .key 0x003
  | .scK3 => .key 0x004
  | .scK4 => .key 0x005
  | .scK5 => .key 0x006
  | .scK6 => .key 0x007
  | .scK7 => .key 0x008
  | .scK8 => .key 0x009
  | .scK9 => .key 0x00A
  | .scK0 => .key 0x00B
  | .scKMinus => .key 0x00C
  | .scKEqual => .key 0x00D
  | .scKQ => .key 0x010
  | .scKW => .key 0x011
  | .scKE => .key 0x012
  | .scKR => .key 0x013
  | .scKT => .key 0x014
  | .scKY => .key 0x015
  | .scKU => .key 0x016
  | .scKI => .key 0x017
  | .scKO => .key 0x018
  | .scKP => .key 0x019
  | .scKLbracket => .key 0x01A
  | .scKRbracket => .key 0x01B
  | .scKA => .key 0x01E
  | .scKS => .key 0x01F
  | .scKD => .key 0x020
  | .scKF => .key 0x021
  | .scKG => .key 0x022
  | .scKH => .key 0x023
  | .scKJ => .key 0x024
  | .scKK => .key 0x025
  | .scKL => .key 0x026
  | .scKSemicolon => .key 0x027
  | .scKQuote => .key 0x028
  | .scKBacktick => .key 0x029
  | .scKBackslash => .key 0x02B
  | .scKZ => .key 0x02C
  | .scKX => .key 0x02D
  | .scKC => .key 0x02E
  | .scKV => .key 0x02F
  | .scKB => .key 0x030
  | .scKN => .key 0x031
  | .scKM => .key 0x032
  | .scKComma => .key 0x033
  | .scKPeriod => .key 0x034
  | .scKSlash => .key 0x035
  | .scKp7 => .key 0x047
  | .scKp8 => .key 0x048
  | .scKp9 => .key 0x049
  | .scKpMinus => .key 0x04A
  | .scKp4 => .key 0x04B
  | .scKp5 => .key 0x04C
  | .scKp6 => .key 0x04D
  | .scKpPlus => .key 0x04E
  | .scKp1 => .key 0x04F
  | .scKp2 => .key 0x050
  | .scKp3 => .key 0x051
  | .scKp0 => .key 0x052
  | .scKpPeriod => .key 0x053
  | .scEsc => .key 0x001
  | .scBksp => .key 0x00E
  | .scTab => .key 0x00F
  | .scEnter => .key 0x01C
  | .scXenter => .key 0x11C
  | .scSpace => .key 0x039
  | .scNone k => .key k
  | .putchar c => .word (c.setWidth 32)
  | .newline => .word 0x10000000
  | .writeAt x y g => .word (0x20000000 ||| (y.setWidth 32 <<< 16) ||| (x.setWidth 32 <<< 8) ||| g.setWidth 32)
  | .writeByte x y g => .word (0x20000000 ||| (y.setWidth 32 <<< 16) ||| (x.setWidth 32 <<< 8) ||| g.setWidth 32)
  | .clear => .word 0x30000000
  | .setColor a => .word (0x40000000 ||| a.setWidth 32)
  | .setShape s e => .word (0x50000000 ||| (e.setWidth 32 <<< 8) ||| s.setWidth 32)
  | .updateCursor => .word 0x60000000
  | .getChar => .word 0x70000000
  | .getLine => .word 0x80000000
  | .lock => .word 0x90000000
  | .unlock => .word 0xA0000000
  | .forceLock => .word 0xB0000000
  | .leReset => .word 0xC0000000
  | .advance b => .word (0xD0000000 ||| b.setWidth 32)
  | .cmdReservedE r => .word (0xE0000000 ||| r.setWidth 32)
  | .cmdReservedF r => .word (0xF0000000 ||| r.setWidth 32)

/-- The instruction the decoder reads from a row's bits as spec/opcode_table.json numbers them: up to 16 bits are a
dispatch key (the table's 9-bit rows, in whole bytes), more are a command word (log 45). -/
def decodeTableWord (nbits w : Nat) : Option Instr :=
  if nbits ≤ 16 then
    if w < 512 then (decode (.key (BitVec.ofNat 9 w))).toOption else none
  else if w < 4294967296 then (decode (.word (BitVec.ofNat 32 w))).toOption else none

end Sys2Proof
end

