-- ==== Sys2Proof/Machine/Fetch.lean ====
section
/-! DEFINITION. What the block does next: the operation the host issues, or the next turn of a GETLINE in progress
(20_memory.md R50 (a); log 1, log 3). -/

namespace Sys2Proof.Machine

/-- What the decoder is handed: a command word, or the key of a byte in the present decoder state
(30_encoding.md R70, R72). -/
def codeOf (st : DState) : HostOp → Code
  | .command w => .word w
  | .scancode b => .key (keyOf st b)

/-- What there is to do. -/
inductive Fetched where
  /-- The host issues nothing. -/
  | idle
  /-- A GETLINE is in progress. -/
  | resumeLine
  /-- The host issues the operation of this code, and `s` is the state with that operation taken. -/
  | operation (c : Code) (s : State)

/-- What there is to do in a state. -/
def fetch (s : State) : Fetched :=
  if s.lineActive then .resumeLine
  else
    match s.host with
    | [] => .idle
    | op :: rest => .operation (codeOf s.dstate op) { s with host := rest }

/-- The refusal of a word that spells no command (30_encoding.md R83). -/
def refusalOf : DecodeError → Refusal
  | .nonZeroReservedBits w => .nonZeroReservedBits w
  | .notScalarValue w => .notScalarValue w

/-- The operation a table word stands for, and the decoder state it is read in: up to 16 bits a scancode row's key, more a
command word (log 45). -/
def placeTableWord (nbits w : Nat) (s : State) : State :=
  if nbits ≤ 16 then
    { s with
      dstate := stateOfKey (BitVec.ofNat 9 w)
      host := .scancode (byteOfKey (BitVec.ofNat 9 w)) :: s.host
      lineActive := false }
  else { s with host := .command (BitVec.ofNat 32 w) :: s.host, lineActive := false }

end Sys2Proof.Machine
end

