-- ==== Sys2Proof/Machine/Step.lean ====
section
/-! DEFINITION. One step of the block: one operation of the host, or one turn of a GETLINE in progress. -/

namespace Sys2Proof.Machine

/-- One step (20_memory.md R50 (a); log 1, log 3). With nothing to do the block does nothing (70_reset_and_hazards.md
R310: it executes nothing on its own). -/
def step (s : State) : Host.Outcome State Fault Refusal :=
  match fetch s with
  | .idle => .next s
  | .resumeLine => exec .getLine s
  | .operation c s' =>
    match decode c with
    | .ok i => exec i s'
    | .error e => .refused (refusalOf e)

/-- The state with a table word as the next operation (log 1, log 45). -/
def State.withFetchWord (s : State) (nbits w : Nat) : State := placeTableWord nbits w s

end Sys2Proof.Machine
end

