-- ==== Sys2Proof/Safety.lean ====
section
/-! DEFINITION. What counts as a safe state and a safe run, in the terms the statements use. -/

namespace Sys2Proof.Machine

/-- The cursor invariant (10_state.md R12). -/
abbrev State.cursorInGrid (s : State) : Prop :=
  s.cursorX.toNat ≤ 79 ∧ s.cursorY.toNat ≤ 24

/-- The line editor's invariant (44_poll_line_editor.md R262). -/
abbrev State.lineInRange (s : State) : Prop := s.len.toNat ≤ 128

/-- A recorded abort has the cause DOUBLE_LOCK or CELL_RANGE: CURSOR_OVERFLOW never happens (60_exceptions.md R281;
43_display_cursor_scroll.md R243). -/
abbrev State.abortRecordLegal (s : State) : Prop :=
  s.aborted = true → s.abortCause = AbortCause.doubleLock.code ∨ s.abortCause = AbortCause.cellRange.code

/-- The invariant every step keeps: the cursor in the grid, the line length in range, display memory in its canonical form
inside the display region, a legal abort record. -/
structure State.Inv (s : State) : Prop where
  cursor : s.cursorInGrid
  line : s.lineInRange
  cells : s.cells.wf
  abortRecord : s.abortRecordLegal

/-- The block takes commands: no abort has happened (60_exceptions.md R286). -/
abbrev State.live (s : State) : Prop := s.aborted = false

/-- The hardware cursor shows the logical cursor (43_display_cursor_scroll.md R247 (e)). -/
abbrev State.cursorShown (s : State) : Prop :=
  s.crtc.offsetLow = offsetLowByte (cursorOffset s) ∧ s.crtc.offsetHigh = offsetHighByte (cursorOffset s)

end Sys2Proof.Machine
end

