-- ==== Sys2Proof/Certificates/Slice0/Obligations.lean ====
section
/-! DEFINITION. The statements for the provers: each `Obligations.<Name>` says what it states; OBLIGATIONS.json lists
them. -/

open Sys2Proof Sys2Proof.Machine

/-- The state a byte of the dispatch map leaves: the decoder in `Neutral`, the flags `m`, the answer `o`; nothing else
changed. -/
def Sys2Proof.Claims.scanned (s : State) (m : Mods) (o : Option Character) : State :=
  { s with dstate := .neutral, mods := m, result := .character o }

/-- The printable table (30_encoding.md R79): row, byte, unshifted, shifted. -/
def Sys2Proof.Claims.printableTable : List (Instr × Byte × Character × Character) :=
  [(.scK1, 0x02, 0x31, 0x21), (.scK2, 0x03, 0x32, 0x40), (.scK3, 0x04, 0x33, 0x23),
   (.scK4, 0x05, 0x34, 0x24), (.scK5, 0x06, 0x35, 0x25), (.scK6, 0x07, 0x36, 0x5E),
   (.scK7, 0x08, 0x37, 0x26), (.scK8, 0x09, 0x38, 0x2A), (.scK9, 0x0A, 0x39, 0x28),
   (.scK0, 0x0B, 0x30, 0x29), (.scKMinus, 0x0C, 0x2D, 0x5F), (.scKEqual, 0x0D, 0x3D, 0x2B),
   (.scKQ, 0x10, 0x71, 0x51), (.scKW, 0x11, 0x77, 0x57), (.scKE, 0x12, 0x65, 0x45),
   (.scKR, 0x13, 0x72, 0x52), (.scKT, 0x14, 0x74, 0x54), (.scKY, 0x15, 0x79, 0x59),
   (.scKU, 0x16, 0x75, 0x55), (.scKI, 0x17, 0x69, 0x49), (.scKO, 0x18, 0x6F, 0x4F),
   (.scKP, 0x19, 0x70, 0x50), (.scKLbracket, 0x1A, 0x5B, 0x7B), (.scKRbracket, 0x1B, 0x5D, 0x7D),
   (.scKA, 0x1E, 0x61, 0x41), (.scKS, 0x1F, 0x73, 0x53), (.scKD, 0x20, 0x64, 0x44),
   (.scKF, 0x21, 0x66, 0x46), (.scKG, 0x22, 0x67, 0x47), (.scKH, 0x23, 0x68, 0x48),
   (.scKJ, 0x24, 0x6A, 0x4A), (.scKK, 0x25, 0x6B, 0x4B), (.scKL, 0x26, 0x6C, 0x4C),
   (.scKSemicolon, 0x27, 0x3B, 0x3A), (.scKQuote, 0x28, 0x27, 0x22), (.scKBacktick, 0x29, 0x60, 0x7E),
   (.scKBackslash, 0x2B, 0x5C, 0x7C), (.scKZ, 0x2C, 0x7A, 0x5A), (.scKX, 0x2D, 0x78, 0x58),
   (.scKC, 0x2E, 0x63, 0x43), (.scKV, 0x2F, 0x76, 0x56), (.scKB, 0x30, 0x62, 0x42),
   (.scKN, 0x31, 0x6E, 0x4E), (.scKM, 0x32, 0x6D, 0x4D), (.scKComma, 0x33, 0x2C, 0x3C),
   (.scKPeriod, 0x34, 0x2E, 0x3E), (.scKSlash, 0x35, 0x2F, 0x3F)]

/-- The keypad table (30_encoding.md R80): row, byte, output while NumLock is active. -/
def Sys2Proof.Claims.keypadTable : List (Instr × Byte × Option Character) :=
  [(.scKp7, 0x47, some 0x37), (.scKp8, 0x48, some 0x38), (.scKp9, 0x49, some 0x39),
   (.scKpMinus, 0x4A, Config.kpMinusOut), (.scKp4, 0x4B, some 0x34), (.scKp5, 0x4C, some 0x35),
   (.scKp6, 0x4D, some 0x36), (.scKpPlus, 0x4E, Config.kpPlusOut), (.scKp1, 0x4F, some 0x31),
   (.scKp2, 0x50, some 0x32), (.scKp3, 0x51, some 0x33), (.scKp0, 0x52, some 0x30),
   (.scKpPeriod, 0x53, some 0x2E)]

/-- The functional table (30_encoding.md R78): row, key, output. -/
def Sys2Proof.Claims.functionalTable : List (Instr × ScanKey × Character) :=
  [(.scSpace, 0x039, 0x20), (.scEnter, 0x01C, 0x0A), (.scXenter, 0x11C, 0x0A),
   (.scBksp, 0x00E, 0x08), (.scTab, 0x00F, 0x09), (.scEsc, 0x001, 0x1B)]

/-- The bits of a command word that its op's row names as fields (30_encoding.md R82). -/
def Sys2Proof.Claims.fieldBit (op j : Nat) : Bool :=
  match op with
  | 0x0 => j < 21
  | 0x2 => j < 24
  | 0x4 => j < 8
  | 0x5 => j < 6 || (8 ≤ j && j < 13)
  | 0xD => j < 8
  | _ => false

/-- A command word that spells a command (30_encoding.md R82, R83): its op is none of the two reserved ones, no bit outside
its fields is set, and a PUTCHAR's operand is a scalar value. -/
def Sys2Proof.Claims.spellsCommand (w : Word) : Prop :=
  (w.extractLsb' 28 4).toNat ≤ 0xD ∧
    (∀ j < 28, w.getLsbD j = true → Claims.fieldBit (w.extractLsb' 28 4).toNat j = true) ∧
    ((w.extractLsb' 28 4).toNat = 0 → Character.isScalar (w.extractLsb' 0 21))

/-- An instruction of the two reserved rows (30_encoding.md R83). -/
def Sys2Proof.Claims.isReserved : Instr → Bool
  | .cmdReservedE _ | .cmdReservedF _ => true
  | _ => false

/-- The commands of unit DC (42_display_write.md R220). -/
def Sys2Proof.Claims.isDisplayCommand : Instr → Bool
  | .putchar _ | .newline | .writeAt _ _ _ | .writeByte _ _ _ | .clear | .setColor _ | .updateCursor | .setShape _ _ => true
  | _ => false

/-- The commands of the lock (20_memory.md R55 to R58). -/
def Sys2Proof.Claims.isLockCommand : Instr → Bool
  | .lock | .unlock | .forceLock => true
  | _ => false

/-- The glyph of a character (42_display_write.md R221, R222): a printable character's own code, an extra glyph above 0x7F
where there is one, the replacement glyph for all others. -/
def Sys2Proof.Claims.shownGlyph (c : Character) : Byte :=
  if 0x20 ≤ c.toNat ∧ c.toNat ≤ 0x7E then c.setWidth 8
  else if 0x7F < c.toNat then (Config.extraGlyph c).getD Config.replacementGlyph
  else Config.replacementGlyph

/-- All a PUTCHAR may change: cells, the cursor, the result; and the hardware cursor as the four port writes of UPDATE_CURSOR
at the new cursor, the only port accesses, leave it (42_display_write.md R229; 43_display_cursor_scroll.md R244). -/
def Sys2Proof.Claims.putcharFrame (s t : State) : Prop :=
  t = { s with
    cells := t.cells, cursorX := t.cursorX, cursorY := t.cursorY
    crtc := { s.crtc with
      offsetLow := BitVec.ofNat 8 ((t.cursorY.toNat * 80 + t.cursorX.toNat) % 256)
      offsetHigh := BitVec.ofNat 8 ((t.cursorY.toNat * 80 + t.cursorX.toNat) / 256)
      index := 0x0E }
    result := .unit
    trace :=
      .write8 Config.crtcDataPort (BitVec.ofNat 8 ((t.cursorY.toNat * 80 + t.cursorX.toNat) / 256)) ::
      .write8 Config.crtcIndexPort 0x0E ::
      .write8 Config.crtcDataPort (BitVec.ofNat 8 ((t.cursorY.toNat * 80 + t.cursorX.toNat) % 256)) ::
      .write8 Config.crtcIndexPort 0x0F :: s.trace }

/-- Every byte outside the bytes of the cells `i` to `i + n - 1` reads as before. -/
def Sys2Proof.Claims.bytesKeptOutside (s t : State) (i n : Nat) : Prop :=
  ∀ a, a < cellAddr i ∨ cellAddr (i + n) ≤ a → t.cells.byteAt a = s.cells.byteAt a

/-- The cells after a scroll, cell by cell (43_display_cursor_scroll.md R242): rows 1 to 24 of `s` in rows 0 to 23, and a
blank bottom row in the colour of `s`; no byte outside the grid changed. -/
def Sys2Proof.Claims.scrolledFrom (s t : State) : Prop :=
  (∀ i < 1920, cellRead i t = cellRead (i + 80) s) ∧
    (∀ i, 1920 ≤ i → i < 2000 → cellRead i t = .ok (cellOf s.currentColor Config.blankGlyph)) ∧
    Claims.bytesKeptOutside s t 0 2000

/-- The cells of the indices `is` written `v`, one by one (42_display_write.md R232). -/
def Sys2Proof.Claims.fillLoop (is : List Nat) (v : CellWord) (s : State) : Run :=
  is.foldlM (fun u i => cellWrite i v u) s

/-- The scroll as a loop over the cells in ascending order, each read just before it is written, then the blank row
(43_display_cursor_scroll.md R242). -/
def Sys2Proof.Claims.scrollLoop (s : State) : Run := do
  let u ← (List.range 1920).foldlM (fun u i => do let v ← cellRead (i + 80) u; cellWrite i v u) s
  Claims.fillLoop (List.range' 1920 80) (cellOf s.currentColor Config.blankGlyph) u

/-- A read of the keyboard's status port. -/
def Sys2Proof.Claims.isStatusRead : PortAccess → Bool
  | .read8 p _ => p == Config.kbdStatusPort
  | _ => false

/-- `n` times the same instruction. -/
def Sys2Proof.Claims.repeatExec (i : Instr) : Nat → State → Outcome
  | 0, s => .next s
  | n + 1, s =>
    match exec i s with
    | .next t => Claims.repeatExec i n t
    | .fault f => .fault f
    | .refused r => .refused r

/-- After reset the cursor is (0, 0), the colour is RESET_COLOR, the decoder is in Neutral with all fourteen flags 0, len
is 0, the block is unlocked and not aborted, and each cell reads as the free content the platform left (any value;
logs 7 and 8). The values are the spec's own decision D22.
Rests on: 10_state.md section 10 (R28), 70_reset_and_hazards.md section 1 (R310), 92_eei_decisions.md (D22). -/
def Obligations.ResetLeavesDecidedValues : Prop :=
  State.reset.cursorX = 0 ∧ State.reset.cursorY = 0 ∧ State.reset.currentColor = Config.resetColor ∧
    State.reset.dstate = .neutral ∧ State.reset.mods.toWord = 0 ∧ State.reset.len = 0 ∧
    State.reset.locked = false ∧ State.reset.aborted = false ∧
    ∀ i < 2000, cellRead i State.reset =
      .ok (cellOf (Config.displayReset (cellAddr i + 1)) (Config.displayReset (cellAddr i)))

/-- When no GETLINE is in progress, the host's next operation is op, and the code of op in the present decoder state
decodes to a well-formed instruction i, a step is exec of i in the state with op taken from the host's list. That
operations stand in a list, and that a GETLINE in progress comes before them, is the model's choice (logs 1 and 3).
Rests on: 20_memory.md section 4 (R50), 30_encoding.md section 1 (R70, R72). -/
def Obligations.StepRunsDecodedOperation : Prop :=
  ∀ (s : State) (op : HostOp) (rest : List HostOp) (i : Instr),
    s.lineActive = false → s.host = op :: rest →
    decode (match op with | .command w => .word w | .scancode b => .key (keyOf s.dstate b)) = .ok i →
    i.wellFormed = true → step s = exec i { s with host := rest }

/-- While a GETLINE is in progress a step is exec of GETLINE; with none in progress and no operation of the host, a step
leaves the state as it is. Both are the model's choices (logs 1 and 3).
Rests on: 44_poll_line_editor.md section 2 (R269), 70_reset_and_hazards.md section 1 (R310). -/
def Obligations.StepContinuesLineOrIdles : Prop :=
  ∀ s : State, (s.lineActive = true → step s = exec .getLine s) ∧
    (s.lineActive = false → s.host = [] → step s = .next s)

/-- A command word decodes to a well-formed instruction of a row that is not reserved exactly when it spells a command (op
at most 0xD, no bit set outside its fields, a scalar operand for PUTCHAR); and a step on a word that spells none ends
in a refusal, with no next state and no abort. The command word and the refusal are the spec's own decision D20.
Rests on: 30_encoding.md section 3 (R82, R83), 92_eei_decisions.md (D20). -/
def Obligations.UnspelledWordIsRefused : Prop :=
  (∀ w : Word, (∃ i, decode (.word w) = .ok i ∧ i.wellFormed = true ∧ Claims.isReserved i = false) ↔
      Claims.spellsCommand w) ∧
    ∀ (s : State) (w : Word) (rest : List HostOp), s.lineActive = false → s.host = .command w :: rest →
      ¬ Claims.spellsCommand w → ∃ r, step s = .refused r

/-- For every well-formed instruction, with every operand, decode of its encoding is the instruction itself, or WRITE_AT
for its second name WRITE_BYTE (log 24). The keys and the words are the spec's own decisions D7, D8 and D20.
Rests on: 30_encoding.md sections 2 and 3 (R72, R78 to R82, R85), 92_eei_decisions.md (D7, D8, D20). -/
def Obligations.DecodeEncodeRoundTrip : Prop :=
  ∀ i : Instr, i.wellFormed = true → decode (encode i) = .ok i.canonical

/-- For every dispatch key and every command word: if it decodes to an instruction, the instruction is well-formed and its
encoding is that key or word, so no bit is dropped; and every dispatch key decodes. The keys and the words are the
spec's own decisions D7, D8 and D20.
Rests on: 30_encoding.md sections 2 and 3 (R72, R81, R82, R83), 92_eei_decisions.md (D7, D8, D20). -/
def Obligations.EncodeDecodeRoundTrip : Prop :=
  (∀ (c : Code) (i : Instr), decode c = .ok i → encode i = c ∧ i.wellFormed = true) ∧
    ∀ k : ScanKey, ∃ i, decode (.key k) = .ok i

/-- The dispatch map has 89 rows with pairwise different keys: 80 keyed under Neutral and 9 under ExtendedPrefixSeen; of
the 512 keys, 423 select the default entry. The keys are the spec's own decisions D7 and D8.
Rests on: 30_encoding.md section 2 (R86), 40_decoder_core_modifiers.md section 1 (R102), 92_eei_decisions.md (D7, D8). -/
def Obligations.DispatchMapCounts : Prop :=
  dispatchMap.length = 89 ∧ (dispatchMap.map fun r => keyOf r.state r.byte).Nodup ∧
    (dispatchMap.filter fun r => r.state == .neutral).length = 80 ∧
    (dispatchMap.filter fun r => r.state == .extendedPrefixSeen).length = 9 ∧
    ((List.range 512).filter fun n => decodeKey (BitVec.ofNat 9 n) == .scNone (BitVec.ofNat 9 n)).length = 423

/-- One word for each family, written out from the tables of the encoding file, decodes to its instruction. The keys and
the words are the spec's own decisions D7, D8 and D20.
Rests on: 30_encoding.md sections 2 and 3 (R78 to R82), 95_test_vectors.md section 3, 92_eei_decisions.md (D7, D8, D20). -/
def Obligations.WrittenOutWordsDecode : Prop :=
  decode (.key 0b011100000) = .ok .scPrefix ∧ decode (.key 0b110011101) = .ok .scRctrlBk ∧
    decode (.key 0b000111010) = .ok .scCapsMk ∧ decode (.key 0b000010111) = .ok .scKI ∧
    decode (.key 0b001000111) = .ok .scKp7 ∧ decode (.key 0b100011100) = .ok .scXenter ∧
    decode (.key 0b010010111) = .ok (.scNone 0x097) ∧ decode (.word 0x0000004F) = .ok (.putchar 0x4F) ∧
    decode (.word 0x2001055A) = .ok (.writeAt 5 1 0x5A) ∧ decode (.word 0x50000F0E) = .ok (.setShape 14 15) ∧
    decode (.word 0x80000000) = .ok .getLine ∧ decode (.word 0xB0000000) = .ok .forceLock ∧
    decode (.word 0xD000002A) = .ok (.advance 0x2A)

/-- In every state that is not aborted, each of the eight make entries, at its key, answers a next state in which its own
flag is 1, the decoder is in Neutral, no character is yielded and nothing else has changed (MOD_WRITE_MODE at its
default set_clear, log 16). That a make sets the flag is the spec's own decision D5; the bytes of the keys are
KEYMAP's (D7; log 15, PRESUMED) and the state each is keyed under is D8 (log 39).
Rests on: 40_decoder_core_modifiers.md section 2 (R104, R105, R107, R109, R111, R113, R115, R117, R119), 92_eei_decisions.md (D5, D7, D8). -/
def Obligations.ModifierMakesSetTheirFlag : Prop :=
  (decode (.key 0x01D) = .ok .scLctrlMk ∧ ∀ s : State, s.live →
      exec .scLctrlMk s = .next (Claims.scanned s { s.mods with lctrl := true } none)) ∧
    (decode (.key 0x11D) = .ok .scRctrlMk ∧ ∀ s : State, s.live →
      exec .scRctrlMk s = .next (Claims.scanned s { s.mods with rctrl := true } none)) ∧
    (decode (.key 0x02A) = .ok .scLshiftMk ∧ ∀ s : State, s.live →
      exec .scLshiftMk s = .next (Claims.scanned s { s.mods with lshift := true } none)) ∧
    (decode (.key 0x036) = .ok .scRshiftMk ∧ ∀ s : State, s.live →
      exec .scRshiftMk s = .next (Claims.scanned s { s.mods with rshift := true } none)) ∧
    (decode (.key 0x038) = .ok .scLaltMk ∧ ∀ s : State, s.live →
      exec .scLaltMk s = .next (Claims.scanned s { s.mods with lalt := true } none)) ∧
    (decode (.key 0x138) = .ok .scRaltMk ∧ ∀ s : State, s.live →
      exec .scRaltMk s = .next (Claims.scanned s { s.mods with ralt := true } none)) ∧
    (decode (.key 0x15B) = .ok .scLsuperMk ∧ ∀ s : State, s.live →
      exec .scLsuperMk s = .next (Claims.scanned s { s.mods with lsuper := true } none)) ∧
    (decode (.key 0x15C) = .ok .scRsuperMk ∧ ∀ s : State, s.live →
      exec .scRsuperMk s = .next (Claims.scanned s { s.mods with rsuper := true } none))

/-- In every state that is not aborted, each of the eight break entries, at its key, answers a next state in which its own
flag is 0, the decoder is in Neutral, no character is yielded and nothing else has changed (MOD_WRITE_MODE at its
default set_clear, log 16). That a break clears the flag is the spec's own decision D5; the bytes of the keys are
KEYMAP's (D7; log 15, PRESUMED), the break bytes 0x9D, 0xB6, 0xB8, 0xDB and 0xDC rest on D11 (log 41, PRESUMED), and
the state each is keyed under is D8 (log 39).
Rests on: 40_decoder_core_modifiers.md section 2 (R104, R106, R108, R110, R112, R114, R116, R118, R120), 92_eei_decisions.md (D5, D7, D8, D11). -/
def Obligations.ModifierBreaksClearTheirFlag : Prop :=
  (decode (.key 0x09D) = .ok .scLctrlBk ∧ ∀ s : State, s.live →
      exec .scLctrlBk s = .next (Claims.scanned s { s.mods with lctrl := false } none)) ∧
    (decode (.key 0x19D) = .ok .scRctrlBk ∧ ∀ s : State, s.live →
      exec .scRctrlBk s = .next (Claims.scanned s { s.mods with rctrl := false } none)) ∧
    (decode (.key 0x0AA) = .ok .scLshiftBk ∧ ∀ s : State, s.live →
      exec .scLshiftBk s = .next (Claims.scanned s { s.mods with lshift := false } none)) ∧
    (decode (.key 0x0B6) = .ok .scRshiftBk ∧ ∀ s : State, s.live →
      exec .scRshiftBk s = .next (Claims.scanned s { s.mods with rshift := false } none)) ∧
    (decode (.key 0x0B8) = .ok .scLaltBk ∧ ∀ s : State, s.live →
      exec .scLaltBk s = .next (Claims.scanned s { s.mods with lalt := false } none)) ∧
    (decode (.key 0x1B8) = .ok .scRaltBk ∧ ∀ s : State, s.live →
      exec .scRaltBk s = .next (Claims.scanned s { s.mods with ralt := false } none)) ∧
    (decode (.key 0x1DB) = .ok .scLsuperBk ∧ ∀ s : State, s.live →
      exec .scLsuperBk s = .next (Claims.scanned s { s.mods with lsuper := false } none)) ∧
    (decode (.key 0x1DC) = .ok .scRsuperBk ∧ ∀ s : State, s.live →
      exec .scRsuperBk s = .next (Claims.scanned s { s.mods with rsuper := false } none))

/-- In set_clear mode a make sets and a break clears the flag; in flip mode each inverts it; every other held flag and
every lock bit is kept; and from a clear flag any number of make and break pairs gives the same flags in both modes.
The two modes are the spec's own decision D5.
Rests on: 40_decoder_core_modifiers.md section 2 (R104), 00_scope.md section 4 (R7), 92_eei_decisions.md (D5). -/
def Obligations.ModifierWriteModes : Prop :=
  (∀ (f g : HeldFlag) (m : Mods),
      ((modMake .setClear f m).held g = if g = f then true else m.held g) ∧
      ((modBreak .setClear f m).held g = if g = f then false else m.held g) ∧
      ((modMake .flip f m).held g = if g = f then !m.held g else m.held g) ∧
      ((modBreak .flip f m).held g = if g = f then !m.held g else m.held g)) ∧
    (∀ (mode : Config.ModWriteMode) (f : HeldFlag) (k : LockKey) (m : Mods),
      (modMake mode f m).lockValue k = m.lockValue k ∧ (modMake mode f m).lockPressed k = m.lockPressed k ∧
      (modBreak mode f m).lockValue k = m.lockValue k ∧ (modBreak mode f m).lockPressed k = m.lockPressed k) ∧
    ∀ (f : HeldFlag) (n : Nat) (m : Mods), m.held f = false →
      (fun m => modBreak .setClear f (modMake .setClear f m))^[n] m =
        (fun m => modBreak .flip f (modMake .flip f m))^[n] m

/-- In every state that is not aborted, each lock make entry toggles the value bit when the pressed-edge bit was 0 and
keeps it when it was 1, and sets the pressed-edge bit; each lock break entry clears the pressed-edge bit and keeps the
value; no character is yielded and nothing else changes but the decoder state. That ScrollLock follows the same rule
is the spec's own decision D9; the bytes 0x45 and 0x46 are KEYMAP's (D7; log 15, PRESUMED), 0xC5 and 0xC6 rest on D11
(log 41, PRESUMED), and the state each key is keyed under is D8 (log 39).
Rests on: 40_decoder_core_modifiers.md section 3 (R121 to R127), 92_eei_decisions.md (D7, D8, D9, D11). -/
def Obligations.LockKeysToggleOnEdges : Prop :=
  (decode (.key 0x03A) = .ok .scCapsMk ∧ ∀ s : State, s.live →
      exec .scCapsMk s = .next (Claims.scanned s
        { s.mods with capsLock := (if s.mods.capsPressed then s.mods.capsLock else !s.mods.capsLock), capsPressed := true } none)) ∧
    (decode (.key 0x0BA) = .ok .scCapsBk ∧ ∀ s : State, s.live →
      exec .scCapsBk s = .next (Claims.scanned s { s.mods with capsPressed := false } none)) ∧
    (decode (.key 0x045) = .ok .scNumMk ∧ ∀ s : State, s.live →
      exec .scNumMk s = .next (Claims.scanned s
        { s.mods with numLock := (if s.mods.numPressed then s.mods.numLock else !s.mods.numLock), numPressed := true } none)) ∧
    (decode (.key 0x0C5) = .ok .scNumBk ∧ ∀ s : State, s.live →
      exec .scNumBk s = .next (Claims.scanned s { s.mods with numPressed := false } none)) ∧
    (decode (.key 0x046) = .ok .scScrollMk ∧ ∀ s : State, s.live →
      exec .scScrollMk s = .next (Claims.scanned s
        { s.mods with scrollLock := (if s.mods.scrollPressed then s.mods.scrollLock else !s.mods.scrollLock), scrollPressed := true } none)) ∧
    (decode (.key 0x0C6) = .ok .scScrollBk ∧ ∀ s : State, s.live →
      exec .scScrollBk s = .next (Claims.scanned s { s.mods with scrollPressed := false } none))

/-- From flags in which a lock key is not tracked as pressed, one or more makes of it and then its break leave the value
toggled exactly once, the pressed-edge bit 0 and every other flag as it was. That ScrollLock follows the same rule is
the spec's own decision D9.
Rests on: 40_decoder_core_modifiers.md section 3 (R121, R122), 70_reset_and_hazards.md section 3 (R320), 92_eei_decisions.md (D9). -/
def Obligations.HeldLockKeyTogglesOnce : Prop :=
  ∀ (k : LockKey) (n : Nat) (m : Mods), m.lockPressed k = false →
    lockBreak k ((lockMake k)^[n + 1] m) = m.setLock k (!m.lockValue k) false

/-- For each of the 47 rows of the printable table: its key under Neutral decodes to it, the same byte after a prefix and
its break byte under Neutral are unmatched, and in every state that is not aborted it yields the shifted character
when exactly one of (a Shift held) and CapsLock is 1 and the unshifted one otherwise, and changes nothing but the
decoder state. The keys, and that the byte is unmatched after a prefix, are the spec's own decisions D7 and D8.
Rests on: 41_decoder_characters.md section 1 (R140 to R187), 92_eei_decisions.md (D7, D8). -/
def Obligations.PrintableEntriesShiftByXor : Prop :=
  ∀ r ∈ Claims.printableTable,
    decode (.key (keyOf .neutral r.2.1)) = .ok r.1 ∧
    decode (.key (keyOf .extendedPrefixSeen r.2.1)) = .ok (.scNone (keyOf .extendedPrefixSeen r.2.1)) ∧
    decode (.key (keyOf .neutral (r.2.1 ||| 0x80))) = .ok (.scNone (keyOf .neutral (r.2.1 ||| 0x80))) ∧
    ∀ s : State, s.live → exec r.1 s = .next (Claims.scanned s s.mods
      (some (if xor (s.mods.lshift || s.mods.rshift) s.mods.capsLock then r.2.2.2 else r.2.2.1)))

/-- For each of the 13 rows of the keypad table: its key under Neutral decodes to it, the same byte after a prefix and its
break byte under Neutral are unmatched, and in every state that is not aborted it yields its output when NUM_LOCK is 1
and nothing when it is 0, whatever the other flags, and changes nothing but the decoder state. The keys, that the byte
is unmatched after a prefix, and the outputs of 0x4A and 0x4E are the spec's own decisions D7, D8 and D10.
Rests on: 41_decoder_characters.md section 2 (R188 to R201), 92_eei_decisions.md (D7, D8, D10). -/
def Obligations.KeypadEntriesGatedByNumLock : Prop :=
  ∀ r ∈ Claims.keypadTable,
    decode (.key (keyOf .neutral r.2.1)) = .ok r.1 ∧
    decode (.key (keyOf .extendedPrefixSeen r.2.1)) = .ok (.scNone (keyOf .extendedPrefixSeen r.2.1)) ∧
    decode (.key (keyOf .neutral (r.2.1 ||| 0x80))) = .ok (.scNone (keyOf .neutral (r.2.1 ||| 0x80))) ∧
    ∀ s : State, s.live →
      exec r.1 s = .next (Claims.scanned s s.mods (if s.mods.numLock then r.2.2 else none))

/-- For each of the 6 functional rows: its key decodes to it, its break byte under either state is unmatched, and in every
state that is not aborted it yields its character whatever the flags and changes nothing but the decoder state. The
keys and the break bytes are the spec's own decisions D7, D8 and D11.
Rests on: 41_decoder_characters.md section 3 (R202 to R207), 92_eei_decisions.md (D7, D8, D11). -/
def Obligations.FunctionalEntriesYieldTheirCharacter : Prop :=
  ∀ r ∈ Claims.functionalTable,
    decode (.key r.2.1) = .ok r.1 ∧
    decode (.key (r.2.1 ||| 0x080)) = .ok (.scNone (r.2.1 ||| 0x080)) ∧
    decode (.key (r.2.1 ||| 0x180)) = .ok (.scNone (r.2.1 ||| 0x180)) ∧
    ∀ s : State, s.live → exec r.1 s = .next (Claims.scanned s s.mods (some r.2.2))

/-- The key (Neutral, 0xE0) is SC.PREFIX, which in every state that is not aborted leaves the decoder in
ExtendedPrefixSeen, yields no character and changes nothing else; the key (ExtendedPrefixSeen, 0xE0) is unmatched.
That a second 0xE0 is no prefix is the spec's own decision D6, and that the prefix is keyed under Neutral is D8 (log
39).
Rests on: 40_decoder_core_modifiers.md section 1 (R101, R103), 92_eei_decisions.md (D6, D8). -/
def Obligations.PrefixByteOpensExtendedState : Prop :=
  decode (.key (keyOf .neutral 0xE0)) = .ok .scPrefix ∧ decode (.key (keyOf .extendedPrefixSeen 0xE0)) = .ok (.scNone 0x1E0) ∧
    ∀ s : State, s.live →
      exec .scPrefix s = .next { s with dstate := .extendedPrefixSeen, result := .character none }

/-- Every dispatch key that no other entry has (the keys at which SC.NONE is well-formed) decodes to SC.NONE, which in
every state that is not aborted leaves the decoder in Neutral, yields nothing and changes nothing else. Which keys are
unmatched rests on the spec's own decisions D7 (KEYMAP; log 15, PRESUMED) and D8 (log 39), and that a second 0xE0 is
one of them and leads to Neutral is D6 (log 38).
Rests on: 40_decoder_core_modifiers.md section 4 (R128), 30_encoding.md section 2 (R81), 92_eei_decisions.md (D6, D7, D8). -/
def Obligations.UnmatchedKeysYieldNothing : Prop :=
  ∀ k : ScanKey, (Instr.scNone k).wellFormed = true →
    decode (.key k) = .ok (.scNone k) ∧
    ∀ s : State, s.live → exec (.scNone k) s = .next (Claims.scanned s s.mods none)

/-- For every state and byte, ADVANCE of the byte is exactly the instruction that the key (decoder state, byte) decodes
to, in the same state.
Rests on: 40_decoder_core_modifiers.md section 1 (R100, R102), 30_encoding.md section 2 (R72). -/
def Obligations.AdvanceRunsTheSelectedEntry : Prop :=
  ∀ (s : State) (b : Byte) (i : Instr), decode (.key (keyOf s.dstate b)) = .ok i →
    exec (.advance b) s = exec i s

/-- In every state that is not aborted ADVANCE b answers a next state; the decoder is in ExtendedPrefixSeen exactly when
it was in Neutral and b is 0xE0, else in Neutral; the flags and the answer may change and nothing else does. That a
second 0xE0 leads to Neutral is the spec's own decision D6.
Rests on: 40_decoder_core_modifiers.md section 1 (R100, R101), 92_eei_decisions.md (D6). -/
def Obligations.AdvanceTransition : Prop :=
  ∀ (s : State) (b : Byte), s.live → ∃ (m : Mods) (o : Option Character),
    exec (.advance b) s = .next { s with
      dstate := (if s.dstate = .neutral ∧ b = 0xE0 then .extendedPrefixSeen else .neutral)
      mods := m
      result := .character o }

/-- If ADVANCE b answers a next state with a character, the fourteen flags are as they were.
Rests on: 40_decoder_core_modifiers.md section 4 (R129). -/
def Obligations.CharacterLeavesFlags : Prop :=
  ∀ (s t : State) (b : Byte) (c : Character), exec (.advance b) s = .next t →
    t.result = .character (some c) → t.mods = s.mods

/-- In every state that is not aborted, ADVANCE of a byte of 0x80 or more answers a next state with no character.
Rests on: 40_decoder_core_modifiers.md section 4 (R129), 41_decoder_characters.md section 4 (R208), 92_eei_decisions.md (D7, D11). -/
def Obligations.BreakBytesYieldNothing : Prop :=
  ∀ (s : State) (b : Byte), s.live → 0x80 ≤ b.toNat →
    ∃ t, exec (.advance b) s = .next t ∧ t.result = .character none

/-- A character that ADVANCE yields is printable ASCII 0x20 to 0x7E, or 0x0A, 0x08, 0x09, 0x1B, or one of the two keypad
parameters.
Rests on: 41_decoder_characters.md section 4 (R209), 30_encoding.md section 1 (R77). -/
def Obligations.DecoderCharacterSet : Prop :=
  ∀ (s t : State) (b : Byte) (c : Character), exec (.advance b) s = .next t → t.result = .character (some c) →
    (0x20 ≤ c.toNat ∧ c.toNat ≤ 0x7E) ∨ c = 0x0A ∨ c = 0x08 ∨ c = 0x09 ∨ c = 0x1B ∨
      Config.kpMinusOut = some c ∨ Config.kpPlusOut = some c

/-- Two states that are not aborted and agree on the decoder state, on a Shift being held, on CAPS_LOCK and on NUM_LOCK
give the same answer to the same byte, whatever the Control, Alt, Super, ScrollLock and pressed-edge flags and all
other state.
Rests on: 40_decoder_core_modifiers.md section 4 (R129), 41_decoder_characters.md section 1 (R140), 92_eei_decisions.md (D4). -/
def Obligations.OutputIgnoresOtherFlags : Prop :=
  ∀ (s s' : State) (b : Byte), s.live → s'.live → s.dstate = s'.dstate →
    (s.mods.lshift || s.mods.rshift) = (s'.mods.lshift || s'.mods.rshift) →
    s.mods.capsLock = s'.mods.capsLock → s.mods.numLock = s'.mods.numLock →
    ∃ t t', exec (.advance b) s = .next t ∧ exec (.advance b) s' = .next t' ∧ t.result = t'.result

/-- With the cursor in the grid but not on its last cell, PUTCHAR of a character other than 0x0A, 0x0D, 0x09 answers a
next state: the cell at the cursor holds the colour and the glyph (the character's own code from 0x20 to 0x7E, the
replacement glyph for 0x7F and below 0x20, the extra glyph or else the replacement glyph above 0x7F), no other byte of
memory changes, the cursor is one column on or at the start of the next row, the hardware cursor shows it, the four
port writes of UPDATE_CURSOR and no others are made, and nothing else changes but the result. The glyphs are the
spec's own decision D19 (log 18, PRESUMED, for printable ASCII; log 19 for the two free constants), and the four port
writes, with the index latch they leave, are D17 (log 35).
Rests on: 42_display_write.md sections 2 and 3 (R221, R222, R223, R227, R228, R229), 43_display_cursor_scroll.md section 2 (R244), 92_eei_decisions.md (D17, D19). -/
def Obligations.PutcharWritesGlyphAndAdvances : Prop :=
  ∀ (s : State) (c : Character), s.live → s.cursorInGrid → c ≠ 0x0A → c ≠ 0x0D → c ≠ 0x09 →
    ¬ (s.cursorX.toNat = 79 ∧ s.cursorY.toNat = 24) →
    ∃ t, exec (.putchar c) s = .next t ∧
      cellRead (s.cursorY.toNat * 80 + s.cursorX.toNat) t = .ok (cellOf s.currentColor (Claims.shownGlyph c)) ∧
      Claims.bytesKeptOutside s t (s.cursorY.toNat * 80 + s.cursorX.toNat) 1 ∧
      (t.cursorX.toNat = if s.cursorX.toNat = 79 then 0 else s.cursorX.toNat + 1) ∧
      (t.cursorY.toNat = if s.cursorX.toNat = 79 then s.cursorY.toNat + 1 else s.cursorY.toNat) ∧
      t.cursorShown ∧ Claims.putcharFrame s t

/-- With the cursor at (79, 24), PUTCHAR of a character other than 0x0A, 0x0D, 0x09 answers a next state: cell (79, 23)
holds the colour and the glyph (the character's own code from 0x20 to 0x7E, the replacement glyph for 0x7F and below
0x20, the extra glyph or else the replacement glyph above 0x7F), every other cell of rows 0 to 23 holds the cell that
was one row below, row 24 is blank in the current colour, no byte outside the grid changes, the cursor is (0, 24) and
shown, the four port writes of UPDATE_CURSOR and no others are made, and nothing else changes but the result. That
attributes move with their glyphs is the spec's own decision D28, the glyphs are D19 (log 18, PRESUMED, for printable
ASCII; log 19 for the two free constants), and the four port writes, with the index latch they leave, are D17 (log
35).
Rests on: 42_display_write.md sections 2 and 3 (R221, R222, R227, R228, R229), 43_display_cursor_scroll.md sections 1 and 2 (R241, R242, R244), 92_eei_decisions.md (D17, D19, D28). -/
def Obligations.PutcharInLastCellScrolls : Prop :=
  ∀ (s : State) (c : Character), s.live → s.cursorX.toNat = 79 → s.cursorY.toNat = 24 →
    c ≠ 0x0A → c ≠ 0x0D → c ≠ 0x09 →
    ∃ t, exec (.putchar c) s = .next t ∧
      cellRead 1919 t = .ok (cellOf s.currentColor (Claims.shownGlyph c)) ∧
      (∀ i < 1919, cellRead i t = cellRead (i + 80) s) ∧
      (∀ i, 1920 ≤ i → i < 2000 → cellRead i t = .ok (cellOf s.currentColor Config.blankGlyph)) ∧
      Claims.bytesKeptOutside s t 0 2000 ∧ t.cursorX = 0 ∧ t.cursorY = 24 ∧
      t.cursorShown ∧ Claims.putcharFrame s t

/-- In every state that is not aborted NEWLINE answers a next state, and PUTCHAR of 0x0A is exactly UPDATE_CURSOR in that
state.
Rests on: R224. -/
def Obligations.PutcharLineFeedIsNewlineThenUpdate : Prop :=
  ∀ s : State, s.live → ∃ t, exec .newline s = .next t ∧ exec (.putchar 0x0A) s = exec .updateCursor t

/-- In every state that is not aborted, PUTCHAR of 0x0D is exactly UPDATE_CURSOR in the state with cursor_x 0 (the row,
every cell and all else kept), which answers a next state with the cursor shown, the four port writes of UPDATE_CURSOR
and no others made. The four port writes, with the index latch they leave, are the spec's own decision D17 (log 35).
Rests on: 42_display_write.md section 3 (R225, R229), 43_display_cursor_scroll.md section 2 (R244), 92_eei_decisions.md (D17). -/
def Obligations.PutcharCarriageReturn : Prop :=
  ∀ s : State, s.live → exec (.putchar 0x0D) s = exec .updateCursor { s with cursorX := 0 } ∧
    ∃ t, exec (.putchar 0x0D) s = .next t ∧ t.cursorX = 0 ∧ t.cursorY = s.cursorY ∧ t.cells = s.cells ∧
      t.cursorShown ∧ Claims.putcharFrame s t

/-- With the cursor in the grid: below column 76, PUTCHAR of 0x09 answers a next state with cursor_x the least multiple of
4 above the old one, the row and every cell kept, the cursor shown, the four port writes of UPDATE_CURSOR and no
others made, and all else kept; from column 76 on it is NEWLINE and then UPDATE_CURSOR. That the tab goes to the
strictly next stop, and that the wrap check follows it, are the spec's own decisions D12 and D13, and the four port
writes, with the index latch they leave, are D17 (log 35).
Rests on: 42_display_write.md section 3 (R226, R228, R229), 43_display_cursor_scroll.md section 2 (R244), 92_eei_decisions.md (D12, D13, D17). -/
def Obligations.PutcharTabStops : Prop :=
  ∀ s : State, s.live → s.cursorInGrid →
    (s.cursorX.toNat < 76 → ∃ t, exec (.putchar 0x09) s = .next t ∧
      t.cursorX.toNat % 4 = 0 ∧ s.cursorX.toNat < t.cursorX.toNat ∧ t.cursorX.toNat ≤ s.cursorX.toNat + 4 ∧
      t.cursorY = s.cursorY ∧ t.cells = s.cells ∧ t.cursorShown ∧ Claims.putcharFrame s t) ∧
    (76 ≤ s.cursorX.toNat → ∃ t, exec .newline s = .next t ∧ exec (.putchar 0x09) s = exec .updateCursor t)

/-- With the cursor in the grid and no abort, PUTCHAR of every character answers a next state that is not aborted, with
the cursor in the grid and the hardware cursor showing it, the four port writes of UPDATE_CURSOR and no others made,
and nothing else changed but cells, cursor and result. That a tab past column 79 wraps is the spec's own decision D13
(log 32), and the four port writes, with the index latch they leave, are D17 (log 35).
Rests on: 42_display_write.md section 3 (R223, R229), 43_display_cursor_scroll.md sections 2 and 3 (R244, R247), 92_eei_decisions.md (D13, D17). -/
def Obligations.PutcharIsTotal : Prop :=
  ∀ (s : State) (c : Character), s.live → s.cursorInGrid →
    ∃ t, exec (.putchar c) s = .next t ∧ t.aborted = false ∧ t.cursorInGrid ∧ t.cursorShown ∧ Claims.putcharFrame s t

/-- Command word 0x10000000 is NEWLINE. With cursor_y below 24 it answers the state with cursor_x 0 and cursor_y one more
and no other change (no cell is touched); with cursor_y 24 it answers a state with the cursor at (0, 24), rows 1 to 24
moved up whole, a blank bottom row in the current colour, no byte outside the grid changed and no other change. That
the hardware cursor is not pushed, and that attributes move with their glyphs, are the spec's own decisions D33 and
D28. The command word is D20 (log 23).
Rests on: 43_display_cursor_scroll.md section 1 (R241, R242), 92_eei_decisions.md (D28, D33, D20). -/
def Obligations.NewlineMovesOrScrolls : Prop :=
  decode (.word 0x10000000) = .ok .newline ∧ ∀ s : State, s.live →
    (s.cursorY.toNat < 24 →
      exec .newline s = .next { s with cursorX := 0, cursorY := BitVec.ofNat 5 (s.cursorY.toNat + 1), result := .unit }) ∧
    (s.cursorY.toNat = 24 → ∃ t, exec .newline s = .next t ∧ Claims.scrolledFrom s t ∧
      t = { s with cells := t.cells, cursorX := 0, cursorY := 24, result := .unit })

/-- From row y of the grid, n + 1 NEWLINE commands answer a state with the cursor at (0, min(24, y + n + 1)); with d the
number of newlines past row 24, cell i shows what cell i + 80 d showed, and from the cell that would lie past the grid
on, the blank of the current colour; no byte outside the grid changes and everything else is kept. With 25 newlines
from row 0, d is 1. That attributes move with their glyphs is the spec's own decision D28.
Rests on: 43_display_cursor_scroll.md section 3 (R247), 95_test_vectors.md section 1 (S5), 92_eei_decisions.md (D28). -/
def Obligations.RepeatedNewlinesScrollTheTopAway : Prop :=
  ∀ (n : Nat) (s : State), s.live → s.cursorY.toNat ≤ 24 →
    ∃ t, Claims.repeatExec .newline (n + 1) s = .next t ∧ t.cursorX = 0 ∧
      t.cursorY.toNat = min 24 (s.cursorY.toNat + n + 1) ∧
      (∀ i < 2000, cellRead i t =
        if i + 80 * (s.cursorY.toNat + n + 1 - 24) < 2000 then cellRead (i + 80 * (s.cursorY.toNat + n + 1 - 24)) s
        else .ok (cellOf s.currentColor Config.blankGlyph)) ∧
      Claims.bytesKeptOutside s t 0 2000 ∧
      t = { s with cells := t.cells, cursorX := 0, cursorY := t.cursorY, result := .unit }

/-- From every state that is not aborted, in the grid or not, a next state of NEWLINE or of PUTCHAR is not aborted; and
NEWLINE always answers one.
Rests on: 43_display_cursor_scroll.md section 1 (R243), 60_exceptions.md section 1 (R281, R283), 92_eei_decisions.md (D14). -/
def Obligations.CursorOverflowNeverRaised : Prop :=
  ∀ s : State, s.live → (∃ t, exec .newline s = .next t ∧ t.aborted = false) ∧
    ∀ (c : Character) (t : State), exec (.putchar c) s = .next t → t.aborted = false

/-- For every state the scroll goes on to a state t in which each of the cells 0 to 1919 is what the cell 80 further on
was before the scroll; and it is, as a run, the loop that copies cell i + 80 to cell i for i = 0 to 1919 in ascending
order, each cell read just before it is written, and then writes the 80 blanks.
Rests on: R318. -/
def Obligations.ScrollEqualsAscendingCopy : Prop :=
  ∀ s : State, (∃ t, scroll s = .ok t ∧ ∀ i < 1920, cellRead i t = cellRead (i + 80) s) ∧ scroll s = Claims.scrollLoop s

/-- Command word 0x30000000 is CLEAR. In every state that is not aborted it answers a next state in which each of the 2000
cells is the blank glyph in the current colour, no byte outside the grid changes, and nothing else changes; that state
is the one 2000 single cell writes in ascending order lead to. The blank glyph, and that the cursor stays, are the
spec's own decisions D19 and D16. The command word is D20 (log 23).
Rests on: 42_display_write.md section 5 (R232), 92_eei_decisions.md (D16, D19, D20). -/
def Obligations.ClearFillsTheGrid : Prop :=
  decode (.word 0x30000000) = .ok .clear ∧ ∀ s : State, s.live → ∃ t, exec .clear s = .next t ∧
    (∀ i < 2000, cellRead i t = .ok (cellOf s.currentColor Config.blankGlyph)) ∧
    Claims.bytesKeptOutside s t 0 2000 ∧ t = { s with cells := t.cells, result := .unit } ∧
    Claims.fillLoop (List.range 2000) (cellOf s.currentColor Config.blankGlyph) { s with result := .unit } = .ok t

/-- For every 8-bit attribute, its command word decodes to SETCOLOR of it, which in every state that is not aborted
answers the state with that colour and no other change (every cell keeps its attribute). That SETCOLOR is a command of
the block is the spec's own decision D34. The command word is D20 (log 23).
Rests on: 42_display_write.md section 5 (R233), 92_eei_decisions.md (D34, D20). -/
def Obligations.SetColorSetsTheColour : Prop :=
  ∀ a : Byte, decode (.word (0x40000000 ||| a.setWidth 32)) = .ok (.setColor a) ∧
    ∀ s : State, s.live → exec (.setColor a) s = .next { s with currentColor := a, result := .unit }

/-- With x below 80 and y below 25, WRITE_AT x, y, g and its second name WRITE_BYTE answer a next state in which a read of
the cell at (x, y) answers the current colour and g, no other byte of memory changes and nothing else changes. The
attribute written, and that the two names are one command, are the spec's own decision D15.
Rests on: 42_display_write.md section 4 (R230, R231), 92_eei_decisions.md (D15). -/
def Obligations.WriteAtInRangeWritesOneCell : Prop :=
  ∀ (s : State) (x y g : Byte) (i : Instr), i = .writeAt x y g ∨ i = .writeByte x y g →
    s.live → x.toNat < 80 → y.toNat < 25 →
    ∃ t, exec i s = .next t ∧ cellRead (y.toNat * 80 + x.toNat) t = .ok (cellOf s.currentColor g) ∧
      Claims.bytesKeptOutside s t (y.toNat * 80 + x.toNat) 1 ∧ t = { s with cells := t.cells, result := .unit }

/-- With x of 80 or more or y of 25 or more, WRITE_AT x, y, g and WRITE_BYTE record an abort with cause code 2 and change
nothing else: no cell, no cursor. The cause code is the spec's own decision D23.
Rests on: 42_display_write.md section 4 (R230, R231), 60_exceptions.md section 1 (R281, R284), 92_eei_decisions.md (D15, D23). -/
def Obligations.WriteAtOutOfRangeAborts : Prop :=
  ∀ (s : State) (x y g : Byte) (i : Instr), i = .writeAt x y g ∨ i = .writeByte x y g →
    s.live → 80 ≤ x.toNat ∨ 25 ≤ y.toNat →
    exec i s = .next { s with aborted := true, abortCause := 2, result := .unit }

/-- Command word 0x60000000 is UPDATE_CURSOR. In every state that is not aborted it answers the state in which sub-
register 0x0F holds the low byte and 0x0E the high byte of cursor_y * 80 + cursor_x, the index latch holds 0x0E, the
four port writes were made in the order index 0x0F, low byte, index 0x0E, high byte (the trace lists the newest
first), and nothing else has changed. The order of the port writes is the spec's own decision D17. The command word is
D20 (log 23).
Rests on: 43_display_cursor_scroll.md section 2 (R244), 92_eei_decisions.md (D17, D20). -/
def Obligations.UpdateCursorPushesTheOffset : Prop :=
  decode (.word 0x60000000) = .ok .updateCursor ∧ ∀ s : State, s.live → exec .updateCursor s = .next { s with
    crtc := { s.crtc with
      offsetLow := BitVec.ofNat 8 ((s.cursorY.toNat * 80 + s.cursorX.toNat) % 256)
      offsetHigh := BitVec.ofNat 8 ((s.cursorY.toNat * 80 + s.cursorX.toNat) / 256)
      index := 0x0E }
    result := .unit
    trace :=
      .write8 Config.crtcDataPort (BitVec.ofNat 8 ((s.cursorY.toNat * 80 + s.cursorX.toNat) / 256)) ::
      .write8 Config.crtcIndexPort 0x0E ::
      .write8 Config.crtcDataPort (BitVec.ofNat 8 ((s.cursorY.toNat * 80 + s.cursorX.toNat) % 256)) ::
      .write8 Config.crtcIndexPort 0x0F :: s.trace }

/-- For every start of 6 bits and end of 5 bits, the command word decodes to SETSHAPE of them, which in every state that
is not aborted answers the state in which sub-register 0x0A holds its old bits 7:6 and start, 0x0B its old bits 7:5
and end, the index latch holds 0x0B, the six port accesses were made in the order index, read, write for 0x0A and then
for 0x0B (the trace lists the newest first), and nothing else has changed. The port accesses and the operand ranges
are the spec's own decision D18, and that a register reads as it was last written is D30. The command word is D20 (log
23).
Rests on: 43_display_cursor_scroll.md section 2 (R245), 92_eei_decisions.md (D18, D30, D20). -/
def Obligations.SetShapeKeepsMaskedBits : Prop :=
  ∀ (a : BitVec 6) (b : BitVec 5),
    decode (.word (0x50000000 ||| (b.setWidth 32 <<< 8) ||| a.setWidth 32)) = .ok (.setShape a b) ∧
    ∀ s : State, s.live → exec (.setShape a b) s = .next { s with
      crtc := { s.crtc with
        cursorStart := (s.crtc.cursorStart &&& 0xC0) ||| a.setWidth 8
        cursorEnd := (s.crtc.cursorEnd &&& 0xE0) ||| b.setWidth 8
        index := 0x0B }
      result := .unit
      trace :=
        .write8 Config.crtcDataPort ((s.crtc.cursorEnd &&& 0xE0) ||| b.setWidth 8) ::
        .read8 Config.crtcDataPort s.crtc.cursorEnd :: .write8 Config.crtcIndexPort 0x0B ::
        .write8 Config.crtcDataPort ((s.crtc.cursorStart &&& 0xC0) ||| a.setWidth 8) ::
        .read8 Config.crtcDataPort s.crtc.cursorStart :: .write8 Config.crtcIndexPort 0x0A :: s.trace }

/-- If a command of unit DC answers a next state, the decoder state, the fourteen flags, the line buffer and its length,
the keyboard controller, the lock and the host's list are as they were.
Rests on: 42_display_write.md section 1 (R220), 10_state.md section 4 (R17). -/
def Obligations.DisplayCommandsKeepDecoderAndLine : Prop :=
  ∀ (i : Instr) (s t : State), Claims.isDisplayCommand i = true → exec i s = .next t →
    t.dstate = s.dstate ∧ t.mods = s.mods ∧ t.line = s.line ∧ t.len = s.len ∧ t.kbd = s.kbd ∧ t.locked = s.locked ∧
      t.host = s.host ∧ t.lineActive = s.lineActive ∧ t.lineDraws = s.lineDraws

/-- In every state that is not aborted: if bit 0 of the keyboard's next status answer is 0, GETCHAR answers the state with
that one status read made and no character; if it is 1, GETCHAR is exactly ADVANCE of the byte, in the state after one
status read and one data read, with the byte consumed. The answer is the next of the list or, after it, a free one
(log 6). The access pattern, and that the data read consumes the byte, are the spec's own decisions D26 and D30. The
command word is D20 (log 23).
Rests on: 44_poll_line_editor.md section 1 (R260), 20_memory.md section 2 (R47), 92_eei_decisions.md (D26, D30, D20). -/
def Obligations.GetCharSamplesOnce : Prop :=
  decode (.word 0x70000000) = .ok .getChar ∧ ∀ s : State, s.live →
    (s.kbd.answer.1.status.getLsbD 0 = false →
      exec .getChar s = .next { s with
        kbd := { s.kbd.answer.2 with status := s.kbd.answer.1.status, data := s.kbd.data }
        result := .character none
        trace := .read8 Config.kbdStatusPort s.kbd.answer.1.status :: s.trace }) ∧
    (s.kbd.answer.1.status.getLsbD 0 = true →
      exec .getChar s = exec (.advance s.kbd.answer.1.data) { s with
        kbd := { s.kbd.answer.2 with status := s.kbd.answer.1.status &&& 0xFE, data := s.kbd.answer.1.data }
        trace := .read8 Config.kbdDataPort s.kbd.answer.1.data ::
          .read8 Config.kbdStatusPort s.kbd.answer.1.status :: s.trace })

/-- In every state that is not aborted, whatever the keyboard answers, GETCHAR answers a next state with an optional
character; exactly one of the port accesses it makes is a read of the status port, and if bit 0 of the byte read is 0
there is no character; only the keyboard controller, the decoder state, the flags, the result and the trace may
differ.
Rests on: R261. -/
def Obligations.GetCharNeverWaits : Prop :=
  ∀ s : State, s.live → ∃ (t : State) (o : Option Character) (made : List PortAccess) (status : Byte),
    exec .getChar s = .next t ∧
    t = { s with
      kbd := t.kbd, dstate := t.dstate, mods := t.mods, result := .character o, trace := made ++ s.trace } ∧
    made.filter Claims.isStatusRead = [.read8 Config.kbdStatusPort status] ∧
    (status.getLsbD 0 = false → o = none)

/-- In every state that is not aborted GETCHAR answers a state t with an optional character, and GETLINE answers: with no
character, t with the GETLINE still in progress; with a character other than 0x0A, the line editor's step of it on t,
still in progress; with 0x0A, t with len 0 (the bytes of the buffer now above it unspecified, log 44), the GETLINE
ended and the bytes of the line as the result. That GETLINE runs one turn a step is the model's choice (log 3).
Rests on: 44_poll_line_editor.md section 2 (R263, R264, R269), 30_encoding.md section 4 (R85), 92_eei_decisions.md (D25). -/
def Obligations.GetLineTurnIsGetCharThenLineStep : Prop :=
  ∀ s : State, s.live → ∃ (t : State) (o : Option Character), exec .getChar s = .next t ∧ t.result = .character o ∧
    exec .getLine s = .next (match o with
      | none => { t with lineActive := true, result := .unit }
      | some c =>
        if c = 0x0A then { t with
          line := (leStep c t).2.line, len := 0, lineDraws := (leStep c t).2.lineDraws, lineActive := false
          result := .line (t.line.toList.take t.len.toNat) }
        else { (leStep c t).2 with lineActive := true, result := .unit })

/-- For a character other than 0x0A and 0x08 the line editor goes on; with len below 128 the buffer is the old one with
the low byte of the character appended and nothing but buffer and length changes; with len 128 nothing changes. Which
characters are appended is the spec's own decision D25.
Rests on: 44_poll_line_editor.md section 2 (R267, R268), 92_eei_decisions.md (D25). -/
def Obligations.LineAppendsOrDrops : Prop :=
  ∀ (s : State) (c : Character), c ≠ 0x0A → c ≠ 0x08 →
    (s.len.toNat < 128 → (leStep c s).1 = .goOn ∧ (leStep c s).2.len.toNat = s.len.toNat + 1 ∧
      bufferBytes (leStep c s).2 = bufferBytes s ++ [c.setWidth 8] ∧
      (leStep c s).2 = { s with line := (leStep c s).2.line, len := (leStep c s).2.len }) ∧
    (s.len.toNat = 128 → leStep c s = (.goOn, s))

/-- With no Control held and len at most 128, Backspace (0x08) leaves the buffer without its last byte (an empty buffer
stays empty), and changes nothing else but the bytes above the new length, which become unspecified, and their counter
(log 44). That an empty buffer stays empty is the spec's own decision D25.
Rests on: 44_poll_line_editor.md section 2 (R265), 92_eei_decisions.md (D25). -/
def Obligations.LineBackspaceRemovesLast : Prop :=
  ∀ s : State, s.mods.lctrl = false → s.mods.rctrl = false → s.len.toNat ≤ 128 →
    (leStep 0x08 s).1 = .goOn ∧ (leStep 0x08 s).2.len.toNat = s.len.toNat - 1 ∧
      bufferBytes (leStep 0x08 s).2 = (bufferBytes s).dropLast ∧
      (leStep 0x08 s).2 = { s with
        line := (leStep 0x08 s).2.line
        len := (leStep 0x08 s).2.len
        lineDraws := (leStep 0x08 s).2.lineDraws }

/-- With a Control held and len at most 128, Backspace (0x08) leaves the buffer without its trailing run of bytes other
than space and tab, and then without the run of spaces and tabs at its end, and changes nothing else but the bytes
above the new length, which become unspecified, and their counter (log 44). The order of the two runs, and what
whitespace is, are the spec's own decision D25.
Rests on: 44_poll_line_editor.md section 2 (R266), 92_eei_decisions.md (D25). -/
def Obligations.LineWordDelete : Prop :=
  ∀ s : State, (s.mods.lctrl || s.mods.rctrl) = true → s.len.toNat ≤ 128 →
    (leStep 0x08 s).1 = .goOn ∧
      bufferBytes (leStep 0x08 s).2 =
        ((bufferBytes s).rdropWhile (fun v => !(v == 0x20 || v == 0x09))).rdropWhile (fun v => v == 0x20 || v == 0x09) ∧
      (leStep 0x08 s).2 = { s with
        line := (leStep 0x08 s).2.line
        len := (leStep 0x08 s).2.len
        lineDraws := (leStep 0x08 s).2.lineDraws }

/-- Command word 0xC0000000 is LE_RESET, which in every state that is not aborted answers the state with len 0 and no
other change but the bytes of the buffer, none of which has meaning any more, and their counter (log 44). The command
word is the spec's own decision D20 (log 23), and that the bytes of the buffer become free values is the model's
choice (log 44).
Rests on: 44_poll_line_editor.md section 2 (R270), 10_state.md section 6 (R22), 92_eei_decisions.md (D20). -/
def Obligations.LeResetEmptiesTheBuffer : Prop :=
  decode (.word 0xC0000000) = .ok .leReset ∧
    ∀ s : State, s.live → ∃ t, exec .leReset s = .next t ∧
      t = { s with line := t.line, len := 0, lineDraws := t.lineDraws, result := .unit }

/-- Command word 0x90000000 is LOCK. In every state that is not aborted: unlocked, it answers the state with the lock held
and no other change; locked, it records an abort with cause code 1 and changes nothing else. The command word is the
spec's own decision D20 (log 23), and the abort record with its cause code is D23 (log 27).
Rests on: 20_memory.md section 5 (R55), 60_exceptions.md section 1 (R281, R284), 92_eei_decisions.md (D20, D23). -/
def Obligations.LockAcquiresOrAborts : Prop :=
  decode (.word 0x90000000) = .ok .lock ∧ ∀ s : State, s.live →
    (s.locked = false → exec .lock s = .next { s with locked := true, result := .unit }) ∧
    (s.locked = true → exec .lock s = .next { s with aborted := true, abortCause := 1, result := .unit })

/-- Command word 0xA0000000 is UNLOCK. In every state that is not aborted: locked, it answers the state with the lock free
and no other change; unlocked, it is refused. The command, and its refusal when unlocked, are the spec's own decision
D27. The command word is D20 (log 23).
Rests on: 20_memory.md section 5 (R56), 92_eei_decisions.md (D27, D20). -/
def Obligations.UnlockReleasesTheLock : Prop :=
  decode (.word 0xA0000000) = .ok .unlock ∧ ∀ s : State, s.live →
    (s.locked = true → exec .unlock s = .next { s with locked := false, result := .unit }) ∧
    (s.locked = false → exec .unlock s = .refused .unlockWhileUnlocked)

/-- Command word 0xB0000000 is FORCE_LOCK, which in every state, also after an abort, answers the state with the lock held
and no other change. R58 sets the lock whatever it was; the command word is the spec's own decision D20 (log 23), and
that the command is accepted after an abort is D23 (log 20).
Rests on: 20_memory.md section 5 (R58), 60_exceptions.md section 1 (R286), 92_eei_decisions.md (D20, D23). -/
def Obligations.ForceLockAlwaysAcquires : Prop :=
  decode (.word 0xB0000000) = .ok .forceLock ∧
    ∀ s : State, exec .forceLock s = .next { s with locked := true, result := .unit }

/-- With aborted = 1, every instruction that is not FORCE_LOCK and not of the two reserved rows (which spell no command
and are refused in every state) ends in the fault blockAborted; FORCE_LOCK answers a next state. That an aborted block
accepts no command but FORCE_LOCK is the spec's own decision D23.
Rests on: 60_exceptions.md section 1 (R286), 92_eei_decisions.md (D23). -/
def Obligations.AbortedBlockAcceptsOnlyForceLock : Prop :=
  ∀ (i : Instr) (s : State), s.aborted = true →
    (i ≠ .forceLock → Claims.isReserved i = false → exec i s = .fault .blockAborted) ∧
    ∃ t, exec .forceLock s = .next t

/-- Every word with op 0xE or 0xF decodes to its reserved row, whose meaning is a refusal in every state: no next state,
no abort. The command word and the refusal are the spec's own decision D20.
Rests on: 30_encoding.md section 3 (R83), 93_implementation_defined.md section 1 (U8), 92_eei_decisions.md (D20). -/
def Obligations.ReservedOpsStop : Prop :=
  ∀ (r : BitVec 28) (s : State),
    decode (.word (0xE0000000 ||| r.setWidth 32)) = .ok (.cmdReservedE r) ∧ exec (.cmdReservedE r) s = .refused .reservedCommandE ∧
    decode (.word (0xF0000000 ||| r.setWidth 32)) = .ok (.cmdReservedF r) ∧ exec (.cmdReservedF r) s = .refused .reservedCommandF

/-- For every instruction: if it takes a state that is not aborted to an aborted one, it is LOCK with the lock held and
the cause is 1, or WRITE_AT or WRITE_BYTE with x of 80 or more or y of 25 or more and the cause is 2; and nothing but
the abort record and the result has changed. The cause codes are the spec's own decision D23.
Rests on: 60_exceptions.md section 1 (R281, R283, R284), 92_eei_decisions.md (D23). -/
def Obligations.AbortsComeFromLockOrRange : Prop :=
  ∀ (i : Instr) (s t : State), exec i s = .next t → s.aborted = false → t.aborted = true →
    ((i = .lock ∧ s.locked = true ∧ t.abortCause = 1) ∨
      ∃ x y g : Byte, (i = .writeAt x y g ∨ i = .writeByte x y g) ∧ (80 ≤ x.toNat ∨ 25 ≤ y.toNat) ∧ t.abortCause = 2) ∧
    t = { s with aborted := true, abortCause := t.abortCause, result := .unit }

/-- If a step from an aborted state answers a next state, that state is aborted with the same cause, and only the lock,
the result and the list of the host's operations may differ. That an aborted block accepts no command but FORCE_LOCK
is the spec's own decision D23.
Rests on: 60_exceptions.md section 1 (R285, R286), 10_state.md section 6 (R24), 92_eei_decisions.md (D23). -/
def Obligations.AbortIsSticky : Prop :=
  ∀ s t : State, step s = .next t → s.aborted = true →
    t = { s with locked := t.locked, result := t.result, host := t.host }

/-- For every instruction other than the three lock commands: if it answers a next state, then from the same state with
any other value of the lock it answers that same next state with that value of the lock; and the lock is kept. That no
other rule reads the lock is the spec's own decision D27.
Rests on: 10_state.md section 6 (R23), 20_memory.md section 5 (R57), 92_eei_decisions.md (D27). -/
def Obligations.LockBitHasThreeWriters : Prop :=
  ∀ (i : Instr) (s t : State) (b : Bool), Claims.isLockCommand i = false → exec i s = .next t →
    exec i { s with locked := b } = .next { t with locked := b } ∧ t.locked = s.locked

/-- If an instruction answers a next state with another colour, it is SETCOLOR of that colour.
Rests on: 10_state.md section 2 (R11), 42_display_write.md section 5 (R233). -/
def Obligations.ColourHasOneWriter : Prop :=
  ∀ (i : Instr) (s t : State), exec i s = .next t → t.currentColor ≠ s.currentColor → i = .setColor t.currentColor

/-- After reset the cursor is in the grid, the line length is in range, display memory has its canonical form and the
abort record is legal.
Rests on: 10_state.md sections 2 and 10 (R12, R28), 44_poll_line_editor.md section 2 (R262). -/
def Obligations.ResetMeetsInvariant : Prop :=
  State.reset.Inv

/-- From every state that meets the invariant (cursor in the grid, line length at most 128, display memory a rising list
of addresses inside the display region, an abort only with cause 1 or 2), a step that answers a next state answers one
that meets it.
Rests on: 10_state.md section 2 (R12), 43_display_cursor_scroll.md section 3 (R247), 44_poll_line_editor.md section 2 (R262), 20_memory.md section 1 (R44). -/
def Obligations.StepKeepsInvariant : Prop :=
  ∀ s t : State, s.Inv → step s = .next t → t.Inv

/-- From a state that meets the invariant no step ends in the fault of a cell index out of range; from every state, a step
that answers a next state leaves every byte outside the 4000 bytes of display memory as it was; and in every state the
read and the write of a cell of index 2000 or more are stuck, while those of a smaller index are not.
Rests on: 20_memory.md section 1 (R44), 43_display_cursor_scroll.md section 3 (R247). -/
def Obligations.StepStaysInsideDisplayMemory : Prop :=
  (∀ (s : State) (i : Nat), s.Inv → step s ≠ .fault (.cellIndexOutOfRange i)) ∧
    (∀ (s t : State) (a : Nat), step s = .next t → a < 0xB8000 ∨ 0xB8000 + 4000 ≤ a → t.cells.byteAt a = s.cells.byteAt a) ∧
    ∀ (s : State) (i : Nat) (v : CellWord),
      (i < 2000 → (∃ w, cellRead i s = .ok w) ∧ ∃ t, cellWrite i v s = .ok t) ∧
      (2000 ≤ i → cellRead i s = .error (.stuck (.cellIndexOutOfRange i)) ∧
        cellWrite i v s = .error (.stuck (.cellIndexOutOfRange i)))
end

