-- ==== Sys2Proof/Laws/Memory.lean ====
section
/-! SUPPORT. The laws of display memory: what a byte and a cell read as after a store, and that the canonical form is
kept. -/

namespace Sys2Proof.Machine

theorem Memory.stored_append (m n : Memory) (a : Nat) :
    Memory.stored (m ++ n) a = (m.stored a).or (n.stored a) := by
  simp only [Memory.stored]
  induction m with
  | nil => simp
  | cons p m ih =>
    obtain ⟨x, v⟩ := p
    by_cases h : a = x
    · subst h; simp [List.lookup]
    · simp [List.lookup, beq_false_of_ne h, ih]

theorem Memory.stored_filter_true (p : Nat → Bool) (m : Memory) (a : Nat) (h : p a = true) :
    Memory.stored (m.filter fun c => p c.1) a = m.stored a := by
  simp only [Memory.stored]
  induction m with
  | nil => rfl
  | cons c m ih =>
    obtain ⟨x, v⟩ := c
    by_cases hx : a = x
    · subst hx; simp [List.lookup, h]
    · by_cases hp : p x <;> simp [hp, List.lookup, beq_false_of_ne hx, ih]

theorem Memory.stored_filter_false (p : Nat → Bool) (m : Memory) (a : Nat) (h : p a = false) :
    Memory.stored (m.filter fun c => p c.1) a = none := by
  simp only [Memory.stored, List.lookup_eq_none_iff]
  intro c hc
  have := (List.mem_filter.1 hc).2
  rw [bne_iff_ne]
  rintro rfl
  simp [h] at this

theorem Memory.stored_block (bs : List Byte) (a b : Nat) :
    Memory.stored (Memory.block a bs) b = if a ≤ b then bs[b - a]? else none := by
  induction bs generalizing a with
  | nil => simp [Memory.block, Memory.stored]
  | cons v bs ih =>
    simp only [Memory.stored] at ih
    by_cases h : b = a
    · subst h; simp [Memory.block, Memory.stored]
    · simp only [Memory.block, Memory.stored, List.lookup, beq_false_of_ne h, ih]
      by_cases hle : a ≤ b
      · have h1 : a + 1 ≤ b := by omega
        have h2 : b - a = (b - (a + 1)) + 1 := by omega
        simp [hle, h1, h2]
      · have h1 : ¬ a + 1 ≤ b := by omega
        simp [hle, h1]

/-- What an address holds after a store. -/
theorem Memory.stored_store (m : Memory) (a : Nat) (bs : List Byte) (b : Nat) :
    (m.store a bs).stored b = if a ≤ b ∧ b < a + bs.length then bs[b - a]? else m.stored b := by
  have hlt := Memory.stored_filter_true (fun x => decide (x < a)) m b
  have hlt' := Memory.stored_filter_false (fun x => decide (x < a)) m b
  have hge := Memory.stored_filter_true (fun x => decide (a + bs.length ≤ x)) m b
  have hge' := Memory.stored_filter_false (fun x => decide (a + bs.length ≤ x)) m b
  simp only [decide_eq_true_eq, decide_eq_false_iff_not] at hlt hlt' hge hge'
  rw [Memory.store, Memory.stored_append, Memory.stored_append, Memory.stored_block]
  rcases Nat.lt_or_ge b a with h | h
  · rw [hlt h, hge' (by omega), if_neg (by omega), if_neg (by omega)]; simp
  · rw [hlt' (by omega), if_pos h]
    by_cases h2 : b < a + bs.length
    · rw [hge' (by omega), if_pos ⟨h, h2⟩]; simp
    · rw [hge (by omega), if_neg (by omega), List.getElem?_eq_none (by omega)]; simp

/-- What a byte reads as after a store: the byte stored, or what it read as before. -/
theorem Memory.byteAt_store (m : Memory) (a : Nat) (bs : List Byte) (b : Nat) :
    (m.store a bs).byteAt b = if a ≤ b ∧ b < a + bs.length then bs.getD (b - a) 0 else m.byteAt b := by
  simp only [Memory.byteAt, Memory.stored_store]
  by_cases h : a ≤ b ∧ b < a + bs.length
  · have hb : b - a < bs.length := by omega
    simp [if_pos h, List.getElem?_eq_getElem hb]
  · simp [if_neg h]

theorem Memory.byteAt_store_outside (m : Memory) (a : Nat) (bs : List Byte) (b : Nat)
    (h : b < a ∨ a + bs.length ≤ b) : (m.store a bs).byteAt b = m.byteAt b := by
  rw [Memory.byteAt_store, if_neg (by omega)]

theorem length_flatMap_cellBytes (vs : List CellWord) : (vs.flatMap cellBytes).length = 2 * vs.length := by
  induction vs with
  | nil => rfl
  | cons v vs ih => simp [List.flatMap_cons, cellBytes, ih]; omega

theorem getElem?_flatMap_cellBytes_even (vs : List CellWord) (j : Nat) :
    (vs.flatMap cellBytes)[2 * j]? = vs[j]?.map glyphOf := by
  induction vs generalizing j with
  | nil => simp
  | cons v vs ih =>
    cases j with
    | zero => simp [cellBytes]
    | succ j =>
      have : 2 * (j + 1) = 2 * j + 2 := by ring
      simp [List.flatMap_cons, cellBytes, this, ← ih]

theorem getElem?_flatMap_cellBytes_odd (vs : List CellWord) (j : Nat) :
    (vs.flatMap cellBytes)[2 * j + 1]? = vs[j]?.map attributeOf := by
  induction vs generalizing j with
  | nil => simp
  | cons v vs ih =>
    cases j with
    | zero => simp [cellBytes]
    | succ j =>
      have : 2 * (j + 1) + 1 = 2 * j + 1 + 2 := by ring
      simp [List.flatMap_cons, cellBytes, this, ← ih]

/-- A cell is its attribute and its glyph. -/
@[simp] theorem cellOf_attributeOf_glyphOf (v : CellWord) : cellOf (attributeOf v) (glyphOf v) = v := by
  simp only [cellOf, attributeOf, glyphOf]
  ext i hi
  simp only [BitVec.getElem_append, BitVec.getElem_extractLsb']
  by_cases h : i < 8 <;> simp [h]
  · congr 1
  · rw [show 8 + (i - 8) = i by omega]; simp [hi]

@[simp] theorem glyphOf_cellOf (a g : Byte) : glyphOf (cellOf a g) = g := by
  simp only [cellOf, glyphOf]
  ext i hi
  rw [BitVec.getElem_extractLsb', Nat.zero_add]
  exact (BitVec.getLsbD_append (x := a) (y := g)).trans (by simp [hi])

@[simp] theorem attributeOf_cellOf (a g : Byte) : attributeOf (cellOf a g) = a := by
  simp only [cellOf, attributeOf]
  ext i hi
  rw [BitVec.getElem_extractLsb']
  exact (BitVec.getLsbD_append (x := a) (y := g)).trans (by simp [hi])

/-- What a cell reads as after cells have been stored: the cell stored, or what it read as before. -/
theorem Memory.cellAt_storeCells (m : Memory) (i : Nat) (vs : List CellWord) (j : Nat) :
    (storeCells m i vs).cellAt j = if i ≤ j ∧ j < i + vs.length then vs.getD (j - i) 0 else m.cellAt j := by
  simp only [Memory.cellAt, storeCells, Memory.byteAt_store, length_flatMap_cellBytes, cellAddr]
  by_cases h : i ≤ j ∧ j < i + vs.length
  · rw [if_pos h, if_pos (by omega), if_pos (by omega)]
    have h1 : Config.displayBase + 2 * j + 1 - (Config.displayBase + 2 * i) = 2 * (j - i) + 1 := by omega
    have h2 : Config.displayBase + 2 * j - (Config.displayBase + 2 * i) = 2 * (j - i) := by omega
    have hj : j - i < vs.length := by omega
    simp [h1, h2, List.getD_eq_getElem?_getD, getElem?_flatMap_cellBytes_even, getElem?_flatMap_cellBytes_odd,
      List.getElem?_eq_getElem hj]
  · rw [if_neg h, if_neg (by omega), if_neg (by omega)]

/-- A byte outside the cells stored is kept. -/
theorem byteAt_storeCells_outside (m : Memory) (i : Nat) (vs : List CellWord) (a : Nat)
    (h : a < cellAddr i ∨ cellAddr (i + vs.length) ≤ a) : (storeCells m i vs).byteAt a = m.byteAt a := by
  rw [storeCells, Memory.byteAt_store_outside]
  rw [length_flatMap_cellBytes]
  simp only [cellAddr] at *
  omega

theorem Memory.mem_block (a : Nat) (bs : List Byte) (p : Host.Cell) (h : p ∈ Memory.block a bs) :
    a ≤ p.1 ∧ p.1 < a + bs.length := by
  induction bs generalizing a with
  | nil => simp [Memory.block] at h
  | cons b bs ih =>
    rcases List.mem_cons.1 h with rfl | h
    · simp
    · have := ih _ h; simp; omega

theorem Memory.block_rising (a : Nat) (bs : List Byte) :
    (Memory.block a bs).Pairwise (fun p q => p.1 < q.1) := by
  induction bs generalizing a with
  | nil => exact List.Pairwise.nil
  | cons b bs ih =>
    refine List.Pairwise.cons (fun p hp => ?_) (ih _)
    have := Memory.mem_block _ _ _ hp
    show a < p.1
    omega

/-- A store inside display memory keeps the canonical form. -/
theorem Memory.store_wf (m : Memory) (a : Nat) (bs : List Byte) (hm : m.wf) (hlo : Config.displayBase ≤ a)
    (hhi : a + bs.length ≤ Config.displayBase + 2 * Config.ncells) : (m.store a bs).wf := by
  obtain ⟨hrise, hin⟩ := hm
  refine ⟨?_, fun p hp => ?_⟩
  · rw [Memory.store, List.pairwise_append, List.pairwise_append]
    refine ⟨⟨hrise.filter _, Memory.block_rising _ _, fun p hp q hq => ?_⟩, hrise.filter _, fun p hp q hq => ?_⟩
    · have := (List.mem_filter.1 hp).2; have := Memory.mem_block _ _ _ hq
      simp only [decide_eq_true_eq] at *; omega
    · have h2 := (List.mem_filter.1 hq).2
      simp only [decide_eq_true_eq] at h2
      rcases List.mem_append.1 hp with hp | hp
      · have := (List.mem_filter.1 hp).2; simp only [decide_eq_true_eq] at this; omega
      · have := Memory.mem_block _ _ _ hp; omega
  · simp only [Memory.store, List.mem_append] at hp
    rcases hp with (hp | hp) | hp
    · exact hin p (List.mem_filter.1 hp).1
    · have := Memory.mem_block _ _ _ hp; omega
    · exact hin p (List.mem_filter.1 hp).1

/-- Storing cells of the grid keeps the canonical form. -/
theorem storeCells_wf (m : Memory) (i : Nat) (vs : List CellWord) (hm : m.wf) (h : i + vs.length ≤ Config.ncells) :
    (storeCells m i vs).wf := by
  refine Memory.store_wf _ _ _ hm (by simp [cellAddr]) ?_
  rw [length_flatMap_cellBytes]
  simp only [cellAddr] at *
  omega

theorem Memory.block_append (a : Nat) (bs cs : List Byte) :
    Memory.block a (bs ++ cs) = Memory.block a bs ++ Memory.block (a + bs.length) cs := by
  induction bs generalizing a with
  | nil => simp [Memory.block]
  | cons b bs ih =>
    simp only [Memory.block, ih, List.cons_append, List.length_cons]
    rw [show a + 1 + bs.length = a + (bs.length + 1) by omega]

/-- Two stores, one right after the other, are one. -/
theorem Memory.store_append (m : Memory) (a : Nat) (bs cs : List Byte) :
    (m.store a bs).store (a + bs.length) cs = m.store a (bs ++ cs) := by
  have hlt : (Memory.block a bs).filter (fun p => p.1 < a + bs.length) = Memory.block a bs := by
    rw [List.filter_eq_self]
    intro p hp
    have := Memory.mem_block _ _ _ hp
    simp; omega
  have hge : (Memory.block a bs).filter (fun p => a + bs.length + cs.length ≤ p.1) = [] := by
    rw [List.filter_eq_nil_iff]
    intro p hp
    have := Memory.mem_block _ _ _ hp
    simp; omega
  have e1 : m.filter (fun p => decide (p.1 < a + bs.length) && decide (p.1 < a)) = m.filter (fun p => p.1 < a) := by
    congr 1; funext p; simp; omega
  have e2 : m.filter (fun p => decide (p.1 < a + bs.length) && decide (a + bs.length ≤ p.1)) = [] := by
    rw [List.filter_eq_nil_iff]; intro p _; simp
  have e3 : m.filter (fun p => decide (a + bs.length + cs.length ≤ p.1) && decide (p.1 < a)) = [] := by
    rw [List.filter_eq_nil_iff]; intro p _; simp; omega
  have e4 : m.filter (fun p => decide (a + bs.length + cs.length ≤ p.1) && decide (a + bs.length ≤ p.1)) =
      m.filter (fun p => a + (bs ++ cs).length ≤ p.1) := by
    congr 1; funext p; simp [Nat.add_assoc]; omega
  unfold Memory.store
  simp only [List.filter_append, List.filter_filter, hlt, hge, e1, e2, e3, e4, Memory.block_append]
  simp

/-- Two stores of cells, one right after the other, are one. -/
theorem storeCells_append (m : Memory) (i : Nat) (vs ws : List CellWord) :
    storeCells (storeCells m i vs) (i + vs.length) ws = storeCells m i (vs ++ ws) := by
  unfold storeCells
  rw [List.flatMap_append, ← Memory.store_append, length_flatMap_cellBytes]
  congr 1
  simp only [cellAddr]
  omega

/-- Display memory after reset has the canonical form. -/
theorem reset_cells_wf : State.reset.cells.wf := by
  simp [State.reset, Memory.wf]

end Sys2Proof.Machine
end

