-- ==== Sys2Proof/Laws/State.lean ====
section
/-! SUPPORT. One lemma for each field and each update of the state: true by rfl (for `cutTo` once it is unfolded), so that no proof unfolds an update. -/

namespace Sys2Proof.Machine

variable (s : State)

@[simp] theorem State.withResult_cursorX (r : Result) : (s.withResult r).cursorX = s.cursorX := rfl
@[simp] theorem State.withResult_cursorY (r : Result) : (s.withResult r).cursorY = s.cursorY := rfl
@[simp] theorem State.withResult_currentColor (r : Result) : (s.withResult r).currentColor = s.currentColor := rfl
@[simp] theorem State.withResult_dstate (r : Result) : (s.withResult r).dstate = s.dstate := rfl
@[simp] theorem State.withResult_mods (r : Result) : (s.withResult r).mods = s.mods := rfl
@[simp] theorem State.withResult_line (r : Result) : (s.withResult r).line = s.line := rfl
@[simp] theorem State.withResult_len (r : Result) : (s.withResult r).len = s.len := rfl
@[simp] theorem State.withResult_locked (r : Result) : (s.withResult r).locked = s.locked := rfl
@[simp] theorem State.withResult_aborted (r : Result) : (s.withResult r).aborted = s.aborted := rfl
@[simp] theorem State.withResult_abortCause (r : Result) : (s.withResult r).abortCause = s.abortCause := rfl
@[simp] theorem State.withResult_cells (r : Result) : (s.withResult r).cells = s.cells := rfl
@[simp] theorem State.withResult_crtc (r : Result) : (s.withResult r).crtc = s.crtc := rfl
@[simp] theorem State.withResult_kbd (r : Result) : (s.withResult r).kbd = s.kbd := rfl
@[simp] theorem State.withResult_host (r : Result) : (s.withResult r).host = s.host := rfl
@[simp] theorem State.withResult_lineActive (r : Result) : (s.withResult r).lineActive = s.lineActive := rfl
@[simp] theorem State.withResult_lineDraws (r : Result) : (s.withResult r).lineDraws = s.lineDraws := rfl
@[simp] theorem State.withResult_result (r : Result) : (s.withResult r).result = r := rfl
@[simp] theorem State.withResult_trace (r : Result) : (s.withResult r).trace = s.trace := rfl

@[simp] theorem State.record_cursorX (a : PortAccess) : (s.record a).cursorX = s.cursorX := rfl
@[simp] theorem State.record_cursorY (a : PortAccess) : (s.record a).cursorY = s.cursorY := rfl
@[simp] theorem State.record_currentColor (a : PortAccess) : (s.record a).currentColor = s.currentColor := rfl
@[simp] theorem State.record_dstate (a : PortAccess) : (s.record a).dstate = s.dstate := rfl
@[simp] theorem State.record_mods (a : PortAccess) : (s.record a).mods = s.mods := rfl
@[simp] theorem State.record_line (a : PortAccess) : (s.record a).line = s.line := rfl
@[simp] theorem State.record_len (a : PortAccess) : (s.record a).len = s.len := rfl
@[simp] theorem State.record_locked (a : PortAccess) : (s.record a).locked = s.locked := rfl
@[simp] theorem State.record_aborted (a : PortAccess) : (s.record a).aborted = s.aborted := rfl
@[simp] theorem State.record_abortCause (a : PortAccess) : (s.record a).abortCause = s.abortCause := rfl
@[simp] theorem State.record_cells (a : PortAccess) : (s.record a).cells = s.cells := rfl
@[simp] theorem State.record_crtc (a : PortAccess) : (s.record a).crtc = s.crtc := rfl
@[simp] theorem State.record_kbd (a : PortAccess) : (s.record a).kbd = s.kbd := rfl
@[simp] theorem State.record_host (a : PortAccess) : (s.record a).host = s.host := rfl
@[simp] theorem State.record_lineActive (a : PortAccess) : (s.record a).lineActive = s.lineActive := rfl
@[simp] theorem State.record_lineDraws (a : PortAccess) : (s.record a).lineDraws = s.lineDraws := rfl
@[simp] theorem State.record_result (a : PortAccess) : (s.record a).result = s.result := rfl
@[simp] theorem State.record_trace (a : PortAccess) : (s.record a).trace = a :: s.trace := rfl

@[simp] theorem abortEntry_cursorX (c : AbortCause) : (abortEntry c s).cursorX = s.cursorX := rfl
@[simp] theorem abortEntry_cursorY (c : AbortCause) : (abortEntry c s).cursorY = s.cursorY := rfl
@[simp] theorem abortEntry_currentColor (c : AbortCause) : (abortEntry c s).currentColor = s.currentColor := rfl
@[simp] theorem abortEntry_dstate (c : AbortCause) : (abortEntry c s).dstate = s.dstate := rfl
@[simp] theorem abortEntry_mods (c : AbortCause) : (abortEntry c s).mods = s.mods := rfl
@[simp] theorem abortEntry_line (c : AbortCause) : (abortEntry c s).line = s.line := rfl
@[simp] theorem abortEntry_len (c : AbortCause) : (abortEntry c s).len = s.len := rfl
@[simp] theorem abortEntry_locked (c : AbortCause) : (abortEntry c s).locked = s.locked := rfl
@[simp] theorem abortEntry_aborted (c : AbortCause) : (abortEntry c s).aborted = true := rfl
@[simp] theorem abortEntry_abortCause (c : AbortCause) : (abortEntry c s).abortCause = c.code := rfl
@[simp] theorem abortEntry_cells (c : AbortCause) : (abortEntry c s).cells = s.cells := rfl
@[simp] theorem abortEntry_crtc (c : AbortCause) : (abortEntry c s).crtc = s.crtc := rfl
@[simp] theorem abortEntry_kbd (c : AbortCause) : (abortEntry c s).kbd = s.kbd := rfl
@[simp] theorem abortEntry_host (c : AbortCause) : (abortEntry c s).host = s.host := rfl
@[simp] theorem abortEntry_lineActive (c : AbortCause) : (abortEntry c s).lineActive = s.lineActive := rfl
@[simp] theorem abortEntry_lineDraws (c : AbortCause) : (abortEntry c s).lineDraws = s.lineDraws := rfl
@[simp] theorem abortEntry_result (c : AbortCause) : (abortEntry c s).result = s.result := rfl
@[simp] theorem abortEntry_trace (c : AbortCause) : (abortEntry c s).trace = s.trace := rfl

@[simp] theorem cutTo_cursorX (n : Nat) : (cutTo n s).cursorX = s.cursorX := by unfold cutTo; rfl
@[simp] theorem cutTo_cursorY (n : Nat) : (cutTo n s).cursorY = s.cursorY := by unfold cutTo; rfl
@[simp] theorem cutTo_currentColor (n : Nat) : (cutTo n s).currentColor = s.currentColor := by unfold cutTo; rfl
@[simp] theorem cutTo_dstate (n : Nat) : (cutTo n s).dstate = s.dstate := by unfold cutTo; rfl
@[simp] theorem cutTo_mods (n : Nat) : (cutTo n s).mods = s.mods := by unfold cutTo; rfl
@[simp] theorem cutTo_line (n : Nat) : (cutTo n s).line = 
      Vector.ofFn fun i => if i.val < n then s.line[i] else Config.freeLineByte s.lineDraws i := by unfold cutTo; rfl
@[simp] theorem cutTo_len (n : Nat) : (cutTo n s).len = BitVec.ofNat 8 n := by unfold cutTo; rfl
@[simp] theorem cutTo_locked (n : Nat) : (cutTo n s).locked = s.locked := by unfold cutTo; rfl
@[simp] theorem cutTo_aborted (n : Nat) : (cutTo n s).aborted = s.aborted := by unfold cutTo; rfl
@[simp] theorem cutTo_abortCause (n : Nat) : (cutTo n s).abortCause = s.abortCause := by unfold cutTo; rfl
@[simp] theorem cutTo_cells (n : Nat) : (cutTo n s).cells = s.cells := by unfold cutTo; rfl
@[simp] theorem cutTo_crtc (n : Nat) : (cutTo n s).crtc = s.crtc := by unfold cutTo; rfl
@[simp] theorem cutTo_kbd (n : Nat) : (cutTo n s).kbd = s.kbd := by unfold cutTo; rfl
@[simp] theorem cutTo_host (n : Nat) : (cutTo n s).host = s.host := by unfold cutTo; rfl
@[simp] theorem cutTo_lineActive (n : Nat) : (cutTo n s).lineActive = s.lineActive := by unfold cutTo; rfl
@[simp] theorem cutTo_lineDraws (n : Nat) : (cutTo n s).lineDraws = s.lineDraws + 1 := by unfold cutTo; rfl
@[simp] theorem cutTo_result (n : Nat) : (cutTo n s).result = s.result := by unfold cutTo; rfl
@[simp] theorem cutTo_trace (n : Nat) : (cutTo n s).trace = s.trace := by unfold cutTo; rfl

@[simp] theorem lineGoesOn_cursorX : (lineGoesOn s).cursorX = s.cursorX := rfl
@[simp] theorem lineGoesOn_cursorY : (lineGoesOn s).cursorY = s.cursorY := rfl
@[simp] theorem lineGoesOn_currentColor : (lineGoesOn s).currentColor = s.currentColor := rfl
@[simp] theorem lineGoesOn_dstate : (lineGoesOn s).dstate = s.dstate := rfl
@[simp] theorem lineGoesOn_mods : (lineGoesOn s).mods = s.mods := rfl
@[simp] theorem lineGoesOn_line : (lineGoesOn s).line = s.line := rfl
@[simp] theorem lineGoesOn_len : (lineGoesOn s).len = s.len := rfl
@[simp] theorem lineGoesOn_locked : (lineGoesOn s).locked = s.locked := rfl
@[simp] theorem lineGoesOn_aborted : (lineGoesOn s).aborted = s.aborted := rfl
@[simp] theorem lineGoesOn_abortCause : (lineGoesOn s).abortCause = s.abortCause := rfl
@[simp] theorem lineGoesOn_cells : (lineGoesOn s).cells = s.cells := rfl
@[simp] theorem lineGoesOn_crtc : (lineGoesOn s).crtc = s.crtc := rfl
@[simp] theorem lineGoesOn_kbd : (lineGoesOn s).kbd = s.kbd := rfl
@[simp] theorem lineGoesOn_host : (lineGoesOn s).host = s.host := rfl
@[simp] theorem lineGoesOn_lineActive : (lineGoesOn s).lineActive = true := rfl
@[simp] theorem lineGoesOn_lineDraws : (lineGoesOn s).lineDraws = s.lineDraws := rfl
@[simp] theorem lineGoesOn_result : (lineGoesOn s).result = .unit := rfl
@[simp] theorem lineGoesOn_trace : (lineGoesOn s).trace = s.trace := rfl

@[simp] theorem lineDone_cursorX (bs : List Byte) : (lineDone bs s).cursorX = s.cursorX := rfl
@[simp] theorem lineDone_cursorY (bs : List Byte) : (lineDone bs s).cursorY = s.cursorY := rfl
@[simp] theorem lineDone_currentColor (bs : List Byte) : (lineDone bs s).currentColor = s.currentColor := rfl
@[simp] theorem lineDone_dstate (bs : List Byte) : (lineDone bs s).dstate = s.dstate := rfl
@[simp] theorem lineDone_mods (bs : List Byte) : (lineDone bs s).mods = s.mods := rfl
@[simp] theorem lineDone_line (bs : List Byte) : (lineDone bs s).line = s.line := rfl
@[simp] theorem lineDone_len (bs : List Byte) : (lineDone bs s).len = s.len := rfl
@[simp] theorem lineDone_locked (bs : List Byte) : (lineDone bs s).locked = s.locked := rfl
@[simp] theorem lineDone_aborted (bs : List Byte) : (lineDone bs s).aborted = s.aborted := rfl
@[simp] theorem lineDone_abortCause (bs : List Byte) : (lineDone bs s).abortCause = s.abortCause := rfl
@[simp] theorem lineDone_cells (bs : List Byte) : (lineDone bs s).cells = s.cells := rfl
@[simp] theorem lineDone_crtc (bs : List Byte) : (lineDone bs s).crtc = s.crtc := rfl
@[simp] theorem lineDone_kbd (bs : List Byte) : (lineDone bs s).kbd = s.kbd := rfl
@[simp] theorem lineDone_host (bs : List Byte) : (lineDone bs s).host = s.host := rfl
@[simp] theorem lineDone_lineActive (bs : List Byte) : (lineDone bs s).lineActive = false := rfl
@[simp] theorem lineDone_lineDraws (bs : List Byte) : (lineDone bs s).lineDraws = s.lineDraws := rfl
@[simp] theorem lineDone_result (bs : List Byte) : (lineDone bs s).result = .line bs := rfl
@[simp] theorem lineDone_trace (bs : List Byte) : (lineDone bs s).trace = s.trace := rfl

end Sys2Proof.Machine
end

