-- ==== Sys2Proof/Laws/Ops.lean ====
section
/-! SUPPORT. For each shared operation, what it can do, said once. -/

namespace Sys2Proof.Machine

/-! ### Running a rule -/

theorem runCommand_live {s : State} (rule : State → Run) (h : s.aborted = false) :
    runCommand s rule = finish (rule (s.withResult .unit)) := by
  simp [runCommand, h]

theorem runCommand_aborted {s : State} (rule : State → Run) (h : s.aborted = true) :
    runCommand s rule = .fault .blockAborted := by
  simp [runCommand, h]

/-- A run that has gone on goes on. -/
@[simp] theorem ok_bind {α β : Type} (x : α) (f : α → Except Stop β) : (Except.ok x >>= f) = f x := rfl

/-- A rule's run answers a next state exactly when it went on to it or raised an abort in it. -/
theorem finish_eq_next_iff (r : Run) (t : State) : finish r = .next t ↔ r = .ok t ∨ r = .error (.raised t) := by
  rcases r with (e | e) | s <;> simp [finish]

/-- A rule's run never ends in a refusal. -/
theorem finish_ne_refused (r : Run) (x : Refusal) : finish r ≠ .refused x := by
  rcases r with (e | e) | s <;> simp [finish]

/-- A rule's run ends in a fault exactly when it is stuck with it. -/
theorem finish_eq_fault_iff (r : Run) (f : Fault) : finish r = .fault f ↔ r = .error (.stuck f) := by
  rcases r with (e | e) | s <;> simp [finish]

/-- If a command answers a next state, the block was live, and its rule went on to that state or raised an abort in it. -/
theorem runCommand_eq_next_iff (s : State) (rule : State → Run) (t : State) :
    runCommand s rule = .next t ↔
      s.aborted = false ∧ (rule (s.withResult .unit) = .ok t ∨ rule (s.withResult .unit) = .error (.raised t)) := by
  cases h : s.aborted <;> simp [runCommand, h, finish_eq_next_iff]

/-! ### Display memory -/

theorem cellWrite_inGrid {i : Nat} (v : CellWord) (s : State) (h : i < 2000) :
    cellWrite i v s = .ok { s with cells := storeCells s.cells i [v] } := by
  simp [cellWrite, h]

theorem cellWrite_outside {i : Nat} (v : CellWord) (s : State) (h : 2000 ≤ i) :
    cellWrite i v s = .error (.stuck (.cellIndexOutOfRange i)) := by
  simp [cellWrite, Nat.not_lt.2 h]

theorem cellRead_inGrid {i : Nat} (s : State) (h : i < 2000) : cellRead i s = .ok (s.cells.cellAt i) := by
  simp [cellRead, h]

theorem cellRead_outside {i : Nat} (s : State) (h : 2000 ≤ i) :
    cellRead i s = .error (.stuck (.cellIndexOutOfRange i)) := by
  simp [cellRead, Nat.not_lt.2 h]

/-- Reading cells of the grid goes on with their values. -/
theorem readCells_inGrid (i : Nat) (s : State) (n : Nat) (h : i + n ≤ 2000) :
    readCells i s n = .ok ((List.range n).map fun j => s.cells.cellAt (j + i)) := by
  induction n generalizing i with
  | zero => rfl
  | succ n ih =>
    rw [readCells, cellRead_inGrid s (by omega), ok_bind, ih (i + 1) (by omega), ok_bind, List.range_succ_eq_map]
    simp [Nat.add_assoc, Nat.add_comm 1]

/-- The grid after a scroll: rows 1 to 24 as they were, then a blank row (43_display_cursor_scroll.md R242). -/
def scrolledCells (s : State) : List CellWord :=
  (List.range 1920).map (fun j => s.cells.cellAt (j + 80)) ++ List.replicate 80 (blankCell s)

/-- The state after a scroll. -/
def scrolled (s : State) : State := { s with cells := storeCells s.cells 0 (scrolledCells s) }

/-- The scroll goes on from every state: it reads and writes cells of the grid alone (20_memory.md R44). -/
theorem scroll_eq (s : State) : scroll s = .ok (scrolled s) := by
  unfold scroll
  rw [readCells_inGrid _ _ _ (by decide)]
  rfl

theorem length_scrolledCells (s : State) : (scrolledCells s).length = 2000 := by
  simp [scrolledCells]

theorem scrolled_cells (s : State) : (scrolled s).cells = storeCells s.cells 0 (scrolledCells s) := rfl

/-- What a cell holds after a scroll. -/
theorem cellAt_scrolled (s : State) (i : Nat) :
    (scrolled s).cells.cellAt i =
      if i < 1920 then s.cells.cellAt (i + 80) else if i < 2000 then blankCell s else s.cells.cellAt i := by
  rw [scrolled_cells, Memory.cellAt_storeCells, length_scrolledCells]
  by_cases h : i < 1920
  · rw [if_pos (by omega), if_pos h]
    simp [scrolledCells, List.getD_eq_getElem?_getD, List.getElem?_append, h]
  · by_cases h2 : i < 2000
    · rw [if_pos (by omega), if_neg h, if_pos h2]
      rw [scrolledCells, List.getD_eq_getElem?_getD, List.getElem?_append_right (by simp; omega),
        List.getElem?_replicate, if_pos (by simp; omega), Option.getD_some]
    · rw [if_neg (by omega), if_neg h, if_neg h2]

theorem scrolled_wf (s : State) (h : s.cells.wf) : (scrolled s).cells.wf := by
  rw [scrolled_cells]
  exact storeCells_wf _ _ _ h (by rw [length_scrolledCells])

/-! ### The ports -/

theorem portWrite8_crtcIndex (v : Byte) (s : State) :
    portWrite8 Config.crtcIndexPort v s =
      { s with crtc := { s.crtc with index := v }, trace := .write8 Config.crtcIndexPort v :: s.trace } := rfl

theorem portWrite8_crtcData (v : Byte) (s : State) :
    portWrite8 Config.crtcDataPort v s =
      { s with crtc := s.crtc.writeSelected v, trace := .write8 Config.crtcDataPort v :: s.trace } := rfl

/-- A port write to any other port changes no register of the block (20_memory.md R46). -/
theorem portWrite8_other (p : Port) (v : Byte) (s : State) (h : p ≠ Config.crtcIndexPort)
    (h' : p ≠ Config.crtcDataPort) : portWrite8 p v s = { s with trace := .write8 p v :: s.trace } := by
  unfold portWrite8
  rw [if_neg h, if_neg h']
  rfl

theorem portRead8_kbdStatus (s : State) :
    portRead8 Config.kbdStatusPort s =
      (s.kbd.readStatus.1,
        { s with
          kbd := s.kbd.readStatus.2
          trace := .read8 Config.kbdStatusPort s.kbd.readStatus.1 :: s.trace }) := rfl

theorem portRead8_kbdData (s : State) :
    portRead8 Config.kbdDataPort s =
      (s.kbd.data,
        { s with kbd := s.kbd.readData.2, trace := .read8 Config.kbdDataPort s.kbd.data :: s.trace }) := rfl

theorem portRead8_crtcData (s : State) (v : Byte) (h : s.crtc.selected = some v) :
    portRead8 Config.crtcDataPort s = (v, { s with trace := .read8 Config.crtcDataPort v :: s.trace }) := by
  have h1 : Config.crtcDataPort ≠ Config.kbdStatusPort := by decide
  have h2 : Config.crtcDataPort ≠ Config.kbdDataPort := by decide
  unfold portRead8
  rw [if_neg h1, if_neg h2]
  simp [h, State.record]

/-! ### The cursor -/

/-- The state after a newline step. -/
def afterNewline (s : State) : State :=
  if s.cursorY.toNat < 24 then { s with cursorX := 0, cursorY := BitVec.ofNat 5 (s.cursorY.toNat + 1) }
  else { scrolled s with cursorX := 0, cursorY := 24 }

/-- The newline step goes on from every state: the overflow check is dead (43_display_cursor_scroll.md R243). -/
theorem newlineStep_eq (s : State) : newlineStep s = .ok (afterNewline s) := by
  unfold newlineStep afterNewline
  by_cases h : s.cursorY.toNat < 24
  · have h1 : ¬ 25 ≤ s.cursorY.toNat + 1 := by omega
    have h2 : ¬ 25 ≤ (s.cursorY.toNat + 1) % 32 := by omega
    simp [h, h1, h2]
  · have h1 : 25 ≤ s.cursorY.toNat + 1 := by omega
    simp [h, h1, scroll_eq, scrolled, scrolledCells, blankCell]

/-- The newline step below the last row: no cell is touched. -/
theorem afterNewline_above {s : State} (h : s.cursorY.toNat < 24) :
    afterNewline s = { s with cursorX := 0, cursorY := BitVec.ofNat 5 (s.cursorY.toNat + 1) } := by
  rw [afterNewline, if_pos h]

/-- The newline step on the last row: the grid scrolls. -/
theorem afterNewline_lastRow {s : State} (h : ¬ s.cursorY.toNat < 24) :
    afterNewline s = { scrolled s with cursorX := 0, cursorY := 24 } := by
  rw [afterNewline, if_neg h]

@[simp] theorem afterNewline_cursorX (s : State) : (afterNewline s).cursorX = 0 := by
  unfold afterNewline; split <;> rfl
@[simp] theorem afterNewline_currentColor (s : State) : (afterNewline s).currentColor = s.currentColor := by
  unfold afterNewline; split <;> rfl
@[simp] theorem afterNewline_dstate (s : State) : (afterNewline s).dstate = s.dstate := by
  unfold afterNewline; split <;> rfl
@[simp] theorem afterNewline_mods (s : State) : (afterNewline s).mods = s.mods := by
  unfold afterNewline; split <;> rfl
@[simp] theorem afterNewline_line (s : State) : (afterNewline s).line = s.line := by
  unfold afterNewline; split <;> rfl
@[simp] theorem afterNewline_len (s : State) : (afterNewline s).len = s.len := by
  unfold afterNewline; split <;> rfl
@[simp] theorem afterNewline_locked (s : State) : (afterNewline s).locked = s.locked := by
  unfold afterNewline; split <;> rfl
@[simp] theorem afterNewline_aborted (s : State) : (afterNewline s).aborted = s.aborted := by
  unfold afterNewline; split <;> rfl
@[simp] theorem afterNewline_abortCause (s : State) : (afterNewline s).abortCause = s.abortCause := by
  unfold afterNewline; split <;> rfl
@[simp] theorem afterNewline_crtc (s : State) : (afterNewline s).crtc = s.crtc := by
  unfold afterNewline; split <;> rfl
@[simp] theorem afterNewline_kbd (s : State) : (afterNewline s).kbd = s.kbd := by
  unfold afterNewline; split <;> rfl
@[simp] theorem afterNewline_host (s : State) : (afterNewline s).host = s.host := by
  unfold afterNewline; split <;> rfl
@[simp] theorem afterNewline_lineActive (s : State) : (afterNewline s).lineActive = s.lineActive := by
  unfold afterNewline; split <;> rfl
@[simp] theorem afterNewline_lineDraws (s : State) : (afterNewline s).lineDraws = s.lineDraws := by
  unfold afterNewline; split <;> rfl
@[simp] theorem afterNewline_result (s : State) : (afterNewline s).result = s.result := by
  unfold afterNewline; split <;> rfl
@[simp] theorem afterNewline_trace (s : State) : (afterNewline s).trace = s.trace := by
  unfold afterNewline; split <;> rfl

@[simp] theorem afterNewline_withResult (s : State) (r : Result) :
    afterNewline (s.withResult r) = (afterNewline s).withResult r := by
  unfold afterNewline
  show (if s.cursorY.toNat < 24 then _ else _) = _
  split <;> rfl

/-- The column does not matter to a newline step. -/
theorem afterNewline_setCursorX (s : State) (x : BitVec 7) : afterNewline { s with cursorX := x } = afterNewline s := by
  unfold afterNewline
  show (if s.cursorY.toNat < 24 then _ else _) = _
  split <;> rfl

/-- The row after a newline step. -/
theorem afterNewline_cursorY_toNat (s : State) :
    (afterNewline s).cursorY.toNat = if s.cursorY.toNat < 24 then s.cursorY.toNat + 1 else 24 := by
  unfold afterNewline
  split
  · show (BitVec.ofNat 5 (s.cursorY.toNat + 1)).toNat = _
    rw [BitVec.toNat_ofNat]; omega
  · rfl

/-- A newline step writes the cells and the cursor, and nothing else. -/
theorem afterNewline_frame (s : State) :
    afterNewline s = { s with
      cells := (afterNewline s).cells, cursorX := (afterNewline s).cursorX, cursorY := (afterNewline s).cursorY } := by
  unfold afterNewline
  split <;> rfl

/-- The four port writes of UPDATE_CURSOR and what they leave. -/
theorem updateCursor_eq (s : State) :
    updateCursor s =
      { s with
        crtc := { s.crtc with
          offsetLow := offsetLowByte (cursorOffset s)
          offsetHigh := offsetHighByte (cursorOffset s)
          index := 0x0E }
        trace :=
          .write8 Config.crtcDataPort (offsetHighByte (cursorOffset s)) :: .write8 Config.crtcIndexPort 0x0E ::
          .write8 Config.crtcDataPort (offsetLowByte (cursorOffset s)) :: .write8 Config.crtcIndexPort 0x0F ::
          s.trace } := rfl

@[simp] theorem updateCursor_cursorX (s : State) : (updateCursor s).cursorX = s.cursorX := by rw [updateCursor_eq]
@[simp] theorem updateCursor_cursorY (s : State) : (updateCursor s).cursorY = s.cursorY := by rw [updateCursor_eq]
@[simp] theorem updateCursor_currentColor (s : State) : (updateCursor s).currentColor = s.currentColor := by rw [updateCursor_eq]
@[simp] theorem updateCursor_dstate (s : State) : (updateCursor s).dstate = s.dstate := by rw [updateCursor_eq]
@[simp] theorem updateCursor_mods (s : State) : (updateCursor s).mods = s.mods := by rw [updateCursor_eq]
@[simp] theorem updateCursor_line (s : State) : (updateCursor s).line = s.line := by rw [updateCursor_eq]
@[simp] theorem updateCursor_len (s : State) : (updateCursor s).len = s.len := by rw [updateCursor_eq]
@[simp] theorem updateCursor_locked (s : State) : (updateCursor s).locked = s.locked := by rw [updateCursor_eq]
@[simp] theorem updateCursor_aborted (s : State) : (updateCursor s).aborted = s.aborted := by rw [updateCursor_eq]
@[simp] theorem updateCursor_abortCause (s : State) : (updateCursor s).abortCause = s.abortCause := by rw [updateCursor_eq]
@[simp] theorem updateCursor_cells (s : State) : (updateCursor s).cells = s.cells := by rw [updateCursor_eq]
@[simp] theorem updateCursor_kbd (s : State) : (updateCursor s).kbd = s.kbd := by rw [updateCursor_eq]
@[simp] theorem updateCursor_host (s : State) : (updateCursor s).host = s.host := by rw [updateCursor_eq]
@[simp] theorem updateCursor_lineActive (s : State) : (updateCursor s).lineActive = s.lineActive := by rw [updateCursor_eq]
@[simp] theorem updateCursor_lineDraws (s : State) : (updateCursor s).lineDraws = s.lineDraws := by rw [updateCursor_eq]
@[simp] theorem updateCursor_result (s : State) : (updateCursor s).result = s.result := by rw [updateCursor_eq]

theorem modifySubRegister_start (f : Byte → Byte) (s : State) :
    modifySubRegister Config.idxCurStart f s =
      { s with
        crtc := { s.crtc with cursorStart := f s.crtc.cursorStart, index := 0x0A }
        trace :=
          .write8 Config.crtcDataPort (f s.crtc.cursorStart) :: .read8 Config.crtcDataPort s.crtc.cursorStart ::
          .write8 Config.crtcIndexPort 0x0A :: s.trace } := by
  rw [modifySubRegister, portWrite8_crtcIndex, portRead8_crtcData (v := s.crtc.cursorStart) _ (by simp [Crtc.selected])]
  simp only [portWrite8_crtcData]
  simp [Crtc.writeSelected]

theorem modifySubRegister_end (f : Byte → Byte) (s : State) :
    modifySubRegister Config.idxCurEnd f s =
      { s with
        crtc := { s.crtc with cursorEnd := f s.crtc.cursorEnd, index := 0x0B }
        trace :=
          .write8 Config.crtcDataPort (f s.crtc.cursorEnd) :: .read8 Config.crtcDataPort s.crtc.cursorEnd ::
          .write8 Config.crtcIndexPort 0x0B :: s.trace } := by
  rw [modifySubRegister, portWrite8_crtcIndex, portRead8_crtcData (v := s.crtc.cursorEnd) _ (by simp [Crtc.selected])]
  simp only [portWrite8_crtcData]
  simp [Crtc.writeSelected]

/-- The six port accesses of SETSHAPE and what they leave. -/
theorem setShape_eq (a : BitVec 6) (b : BitVec 5) (s : State) :
    setShape a b s =
      { s with
        crtc := { s.crtc with
          cursorStart := startScanline s.crtc.cursorStart a
          cursorEnd := endScanline s.crtc.cursorEnd b
          index := 0x0B }
        trace :=
          .write8 Config.crtcDataPort (endScanline s.crtc.cursorEnd b) ::
          .read8 Config.crtcDataPort s.crtc.cursorEnd :: .write8 Config.crtcIndexPort 0x0B ::
          .write8 Config.crtcDataPort (startScanline s.crtc.cursorStart a) ::
          .read8 Config.crtcDataPort s.crtc.cursorStart :: .write8 Config.crtcIndexPort 0x0A :: s.trace } := by
  rw [setShape, modifySubRegister_start, modifySubRegister_end]

theorem wrapCheck_eq (s : State) :
    wrapCheck s = .ok (if 80 ≤ s.cursorX.toNat then afterNewline s else s) := by
  unfold wrapCheck
  by_cases h : 80 ≤ s.cursorX.toNat <;> simp [h, newlineStep_eq]

/-! ### The decoder -/

theorem dispatchRow_state_byte (st : DState) (b : Byte) :
    (dispatchRow st b).state = st ∧ (dispatchRow st b).byte = b := by
  unfold dispatchRow
  cases h : dispatchMap.find? fun r => r.state == st && r.byte == b with
  | none => simp [rowScNone]
  | some r => simpa using List.find?_some h

/-- An entry's row is one of the map, or the default's. -/
theorem dispatchRow_mem (st : DState) (b : Byte) :
    dispatchRow st b ∈ dispatchMap ∨ (dispatchRow st b).entry = .unmatched := by
  unfold dispatchRow
  cases h : dispatchMap.find? fun r => r.state == st && r.byte == b with
  | none => simp [rowScNone]
  | some r => exact .inl (List.mem_of_find?_eq_some h)

/-- ADVANCE writes `dstate` and `mods` and nothing else. -/
theorem advance_eq (b : Byte) (s : State) :
    advance b s =
      ((runEntry (dispatchRow s.dstate b).entry s.mods).1,
        { s with
          dstate := nextState s.dstate b
          mods := (runEntry (dispatchRow s.dstate b).entry s.mods).2 }) := by
  have h := dispatchRow_state_byte s.dstate b
  simp [advance, applyRow, h.1, h.2]

/-- An entry that yields a character leaves the flags as they were. -/
theorem runEntry_output_keeps_mods (e : Entry) (m : Mods) (c : Character) (h : (runEntry e m).1 = some c) :
    (runEntry e m).2 = m := by
  cases e <;> simp_all [runEntry]

/-! ### The keyboard and the line editor -/

/-- The keyboard controller after the accesses of one poll. -/
def afterPoll (k : Keyboard) : Keyboard :=
  if isReady k.readStatus.1 then k.readStatus.2.readData.2 else k.readStatus.2

/-- One poll: not ready, nothing but the status read; ready, the byte read and advanced. -/
theorem pollKeyboard_eq (s : State) :
    pollKeyboard s =
      if isReady s.kbd.readStatus.1 then
        advance s.kbd.readStatus.2.data
          { s with
            kbd := s.kbd.readStatus.2.readData.2
            trace := .read8 Config.kbdDataPort s.kbd.readStatus.2.data ::
              .read8 Config.kbdStatusPort s.kbd.readStatus.1 :: s.trace }
      else
        (none, { s with
          kbd := s.kbd.readStatus.2
          trace := .read8 Config.kbdStatusPort s.kbd.readStatus.1 :: s.trace }) := rfl

/-- A poll writes the keyboard, the decoder's state and the trace, and nothing else. -/
theorem pollKeyboard_frame (s : State) :
    (pollKeyboard s).2 = { s with
      kbd := (pollKeyboard s).2.kbd
      dstate := (pollKeyboard s).2.dstate
      mods := (pollKeyboard s).2.mods
      trace := (pollKeyboard s).2.trace } := by
  rw [pollKeyboard_eq]
  split
  · rw [advance_eq]
  · rfl

/-- The line editor writes the buffer, its length and the free-value counter, and nothing else. -/
theorem leStep_frame (c : Character) (s : State) :
    (leStep c s).2 = { s with
      line := (leStep c s).2.line, len := (leStep c s).2.len, lineDraws := (leStep c s).2.lineDraws } := by
  unfold leStep leEnter leBackspace leWordDelete leAppend cutTo
  repeat' split
  all_goals rfl

theorem trimRun_le (p : Byte → Bool) (s : State) (n : Nat) : trimRun p s n ≤ n := by
  induction n with
  | zero => simp [trimRun]
  | succ n ih =>
    unfold trimRun
    split <;> omega

/-- The line editor keeps its length in range (44_poll_line_editor.md R262). -/
theorem leStep_len_le (c : Character) (s : State) (h : s.len.toNat ≤ 128) : (leStep c s).2.len.toNat ≤ 128 := by
  have h1 := trimRun_le isWhitespace s (trimRun (fun v => !isWhitespace v) s s.len.toNat)
  have h2 := trimRun_le (fun v => !isWhitespace v) s s.len.toNat
  unfold leStep leEnter leBackspace leWordDelete leAppend
  repeat' split
  all_goals simp only [cutTo_len, BitVec.toNat_ofNat, Config.lineCap] at *
  all_goals omega

end Sys2Proof.Machine
end

