-- ==== Sys2Proof/Laws/Exec.lean ====
section
/-! SUPPORT. What the meanings of whole shapes of instructions can do: the rows of the dispatch map, PUTCHAR's cases, the
line editor. -/

namespace Sys2Proof.Machine

/-! ### The rows of the dispatch map -/

/-- The instructions of format SC. -/
def isScan : Instr → Bool
  | .putchar _ | .newline | .writeAt _ _ _ | .writeByte _ _ _ | .clear | .setColor _ | .setShape _ _ | .updateCursor
  | .getChar | .getLine | .lock | .unlock | .forceLock | .leReset | .advance _ | .cmdReservedE _ | .cmdReservedF _ => false
  | _ => true

/-- The meaning of an instruction of format SC is the run of its row. -/
theorem exec_scan (i : Instr) (h : isScan i = true) : ∃ r : Row, ∀ s, exec i s = runScanRow r s := by
  cases i
  case putchar | newline | writeAt | writeByte | clear | setColor | setShape | updateCursor | getChar | getLine | lock |
    unlock | forceLock | leReset | advance | cmdReservedE | cmdReservedF => cases h
  all_goals exact ⟨_, fun _ => rfl⟩

/-- A row's run writes the decoder state, the flags and the result, and nothing else. -/
theorem runScanRow_eq_next_iff (r : Row) (s t : State) :
    runScanRow r s = .next t ↔ s.aborted = false ∧
      t = { s with
        dstate := nextState r.state r.byte
        mods := (runEntry r.entry s.mods).2
        result := .character (runEntry r.entry s.mods).1 } := by
  rw [runScanRow, runCommand_eq_next_iff]
  refine and_congr_right fun _ => ⟨?_, fun h => .inl (congrArg Except.ok h.symm)⟩
  rintro (h | h)
  · exact (Except.ok.inj h).symm
  · cases h

theorem runScanRow_aborted {r : Row} {s : State} (h : s.aborted = true) : runScanRow r s = .fault .blockAborted :=
  runCommand_aborted _ h

@[simp] theorem stateOfKey_keyOf (st : DState) (b : Byte) : stateOfKey (keyOf st b) = st := by
  cases st <;> revert b <;> decide +kernel

@[simp] theorem byteOfKey_keyOf (st : DState) (b : Byte) : byteOfKey (keyOf st b) = b := by
  cases st <;> revert b <;> decide +kernel

/-! ### PUTCHAR -/

/-- What PUTCHAR's case can do: the cell at the cursor written, or no cell; the cursor moved; nothing else. -/
theorem putcharCase_frame (c : Character) (s v : State) (h : putcharCase c s = .ok v) :
    v = { s with cells := v.cells, cursorX := v.cursorX, cursorY := v.cursorY } := by
  unfold putcharCase at h
  split at h
  · rw [newlineStep_eq] at h
    cases h
    exact afterNewline_frame s
  split at h
  · cases h; rfl
  split at h
  · cases h; rfl
  · unfold putGlyph cellWrite at h
    split at h
    · cases h; rfl
    · cases h

/-- PUTCHAR's case never raises an abort; it is stuck only on a cell outside the grid. -/
theorem putcharCase_cases (c : Character) (s : State) :
    (∃ v, putcharCase c s = .ok v) ∨
      putcharCase c s = .error (.stuck (.cellIndexOutOfRange (cursorOffset s))) ∧ 2000 ≤ cursorOffset s := by
  unfold putcharCase
  split
  · exact .inl ⟨_, newlineStep_eq s⟩
  split
  · exact .inl ⟨_, rfl⟩
  split
  · exact .inl ⟨_, rfl⟩
  · unfold putGlyph
    by_cases h : cursorOffset s < 2000
    · rw [cellWrite_inGrid _ _ h]; exact .inl ⟨_, rfl⟩
    · rw [cellWrite_outside _ _ (Nat.le_of_not_lt h)]; exact .inr ⟨rfl, Nat.le_of_not_lt h⟩

/-- PUTCHAR answers a next state exactly through its case, the wrap check and the hardware cursor. -/
theorem execPutchar_eq_next_iff (c : Character) (s t : State) :
    execPutchar c s = .next t ↔ s.aborted = false ∧ ∃ v, putcharCase c (s.withResult .unit) = .ok v ∧
      t = updateCursor (if 80 ≤ v.cursorX.toNat then afterNewline v else v) := by
  rw [execPutchar, runCommand_eq_next_iff]
  refine and_congr_right fun _ => ?_
  rcases putcharCase_cases c (s.withResult .unit) with ⟨v, h⟩ | ⟨h, -⟩
  · simp only [h, bind, Except.bind, wrapCheck_eq]
    constructor
    · rintro (h | h)
      · exact ⟨v, rfl, (Except.ok.inj h).symm⟩
      · cases h
    · rintro ⟨w, hw, rfl⟩
      cases hw
      exact .inl rfl
  · simp only [h, bind, Except.bind]
    constructor
    · rintro (h | h) <;> cases h
    · rintro ⟨w, hw, -⟩
      cases hw

/-! ### The line editor -/

theorem leStep_enter (s : State) : leStep 0x0A s = (.done (bufferBytes s), cutTo 0 s) := rfl

theorem leStep_goOn (c : Character) (s : State) (h : c ≠ 0x0A) : (leStep c s).1 = .goOn := by
  unfold leStep
  rw [if_neg h]
  repeat' split
  all_goals rfl

/-- The part of the buffer that has meaning, after a cut. -/
theorem bufferBytes_cutTo (s : State) (n : Nat) (h : n ≤ s.len.toNat) (h' : s.len.toNat ≤ 128) :
    bufferBytes (cutTo n s) = (bufferBytes s).take n := by
  unfold bufferBytes
  rw [cutTo_len, cutTo_line, BitVec.toNat_ofNat, Nat.mod_eq_of_lt (by omega), List.take_take, Nat.min_eq_left h]
  apply List.ext_getElem?
  intro i
  by_cases hi : i < n
  · rw [List.getElem?_take_of_lt hi, List.getElem?_take_of_lt hi]
    have : i < 128 := by omega
    simp [hi, this]
  · rw [List.getElem?_take_eq_none (by omega), List.getElem?_take_eq_none (by omega)]

theorem length_bufferBytes (s : State) (h : s.len.toNat ≤ 128) : (bufferBytes s).length = s.len.toNat := by
  simp [bufferBytes, h]

/-- One turn of GETLINE writes the keyboard, the decoder's state, the line buffer, the result and the trace, and nothing
else. -/
theorem getLineTurn_frame (s : State) :
    getLineTurn s = { s with
      kbd := (getLineTurn s).kbd, dstate := (getLineTurn s).dstate, mods := (getLineTurn s).mods
      trace := (getLineTurn s).trace, line := (getLineTurn s).line, len := (getLineTurn s).len
      lineDraws := (getLineTurn s).lineDraws, lineActive := (getLineTurn s).lineActive
      result := (getLineTurn s).result } := by
  have hp := pollKeyboard_frame s
  unfold getLineTurn
  generalize pollKeyboard s = p at hp
  obtain ⟨o, t⟩ := p
  cases o with
  | none => dsimp only at hp ⊢; rw [hp]; rfl
  | some c =>
    have hl := leStep_frame c t
    dsimp only at hp ⊢
    generalize leStep c t = q at hl
    obtain ⟨st, u⟩ := q
    cases st <;> dsimp only [lineGoesOn, lineDone] at hl ⊢ <;> rw [hl, hp]

/-- One turn of GETLINE keeps the line length in range (44_poll_line_editor.md R262). -/
theorem getLineTurn_len_le (s : State) (h : s.len.toNat ≤ 128) : (getLineTurn s).len.toNat ≤ 128 := by
  have hp := congrArg State.len (pollKeyboard_frame s)
  unfold getLineTurn
  generalize pollKeyboard s = p at hp
  obtain ⟨o, t⟩ := p
  cases o with
  | none => exact (congrArg BitVec.toNat hp).trans_le h
  | some c =>
    have hl := leStep_len_le c t ((congrArg BitVec.toNat hp).trans_le h)
    dsimp only
    generalize leStep c t = q at hl
    obtain ⟨st, u⟩ := q
    cases st <;> simpa using hl

/-! ### What an instruction can do when it answers a next state -/

theorem runCommand_ok_next (s t : State) (f : State → State) (h : runCommand s (fun s => .ok (f s)) = .next t) :
    s.aborted = false ∧ t = f (s.withResult .unit) := by
  obtain ⟨h1, h2⟩ := (runCommand_eq_next_iff _ _ _).1 h
  refine ⟨h1, ?_⟩
  rcases h2 with h2 | h2
  · exact (Except.ok.inj h2).symm
  · cases h2

theorem runWriteAt_next (s t : State) (x y g : Byte) (h : runCommand s (writeAtRule x y g) = .next t) :
    s.aborted = false ∧
      ((80 ≤ x.toNat ∨ 25 ≤ y.toNat) ∧ t = abortEntry .cellRange (s.withResult .unit) ∨
        x.toNat < 80 ∧ y.toNat < 25 ∧
          t = { s.withResult .unit with
            cells := storeCells s.cells (cellIndex x.toNat y.toNat) [cellOf s.currentColor g] }) := by
  obtain ⟨h1, h2⟩ := (runCommand_eq_next_iff _ _ _).1 h
  refine ⟨h1, ?_⟩
  unfold writeAtRule at h2
  split at h2
  · rename_i hr
    refine .inl ⟨hr, ?_⟩
    rcases h2 with h2 | h2 <;> cases h2
    rfl
  · rename_i hr
    simp only [Config.width, Config.height, not_or, not_le] at hr
    rw [cellWrite_inGrid _ _ (by simp only [cellIndex, Config.width]; omega)] at h2
    refine .inr ⟨hr.1, hr.2, ?_⟩
    rcases h2 with h2 | h2
    · exact (Except.ok.inj h2).symm
    · cases h2

theorem execLock_next (s t : State) (h : execLock s = .next t) :
    s.aborted = false ∧
      (s.locked = true ∧ t = abortEntry .doubleLock (s.withResult .unit) ∨
        s.locked = false ∧ t = { s.withResult .unit with locked := true }) := by
  obtain ⟨h1, h2⟩ := (runCommand_eq_next_iff _ _ _).1 h
  refine ⟨h1, ?_⟩
  cases hl : s.locked
  · rw [if_neg (by simp [hl])] at h2
    rcases h2 with h2 | h2 <;> cases h2
    exact .inr ⟨rfl, rfl⟩
  · rw [if_pos (by simp [hl])] at h2
    rcases h2 with h2 | h2 <;> cases h2
    exact .inl ⟨rfl, rfl⟩

theorem execUnlock_next (s t : State) (h : execUnlock s = .next t) :
    s.aborted = false ∧ s.locked = true ∧ t = { s.withResult .unit with locked := false } := by
  unfold execUnlock at h
  split at h
  · cases h
  · obtain ⟨h1, h2⟩ := runCommand_ok_next s t (fun s => { s with locked := false }) h
    rename_i hn
    exact ⟨h1, by simpa [h1] using hn, h2⟩

theorem execNewline_next (s t : State) (h : execNewline s = .next t) :
    s.aborted = false ∧ t = afterNewline (s.withResult .unit) := by
  apply runCommand_ok_next s t afterNewline
  rw [← h, execNewline, show newlineStep = fun s => .ok (afterNewline s) from funext newlineStep_eq]

/-- Everything a live block's next state can be, instruction by instruction. -/
inductive Effect (s t : State) : Instr → Prop
  | scan (i : Instr) (d : DState) (m : Mods) (r : Result) (h : isScan i = true)
      (ht : t = { s with dstate := d, mods := m, result := r }) : Effect s t i
  | advance (b : Byte) (d : DState) (m : Mods) (r : Result)
      (ht : t = { s with dstate := d, mods := m, result := r }) : Effect s t (.advance b)
  | putchar (c : Character) (v : State) (hv : putcharCase c (s.withResult .unit) = .ok v)
      (ht : t = updateCursor (if 80 ≤ v.cursorX.toNat then afterNewline v else v)) : Effect s t (.putchar c)
  | newline (ht : t = afterNewline (s.withResult .unit)) : Effect s t .newline
  | writeOutside (i : Instr) (x y g : Byte) (hi : i = .writeAt x y g ∨ i = .writeByte x y g)
      (h : 80 ≤ x.toNat ∨ 25 ≤ y.toNat) (ht : t = abortEntry .cellRange (s.withResult .unit)) : Effect s t i
  | writeInside (i : Instr) (x y g : Byte) (hi : i = .writeAt x y g ∨ i = .writeByte x y g)
      (hx : x.toNat < 80) (hy : y.toNat < 25)
      (ht : t = { s.withResult .unit with
        cells := storeCells s.cells (cellIndex x.toNat y.toNat) [cellOf s.currentColor g] }) : Effect s t i
  | clear (ht : t = { s.withResult .unit with
      cells := storeCells s.cells 0 (List.replicate 2000 (blankCell s)) }) : Effect s t .clear
  | setColor (a : Byte) (ht : t = { s.withResult .unit with currentColor := a }) : Effect s t (.setColor a)
  | setShape (a : BitVec 6) (b : BitVec 5) (ht : t = Machine.setShape a b (s.withResult .unit)) :
      Effect s t (.setShape a b)
  | updateCursor (ht : t = Machine.updateCursor (s.withResult .unit)) : Effect s t .updateCursor
  | getChar (ht : t = (pollKeyboard (s.withResult .unit)).2.withResult
      (.character (pollKeyboard (s.withResult .unit)).1)) : Effect s t .getChar
  | getLine (ht : t = getLineTurn (s.withResult .unit)) : Effect s t .getLine
  | lockHeld (h : s.locked = true) (ht : t = abortEntry .doubleLock (s.withResult .unit)) : Effect s t .lock
  | lockFree (h : s.locked = false) (ht : t = { s.withResult .unit with locked := true }) : Effect s t .lock
  | unlock (h : s.locked = true) (ht : t = { s.withResult .unit with locked := false }) : Effect s t .unlock
  | leReset (ht : t = cutTo 0 (s.withResult .unit)) : Effect s t .leReset

/-- An instruction that answers a next state is FORCE_LOCK, or the block is live and the next state is one of its
effects. -/
theorem exec_next_effect (i : Instr) (s t : State) (h : exec i s = .next t) :
    (i = .forceLock ∧ t = { s.withResult .unit with locked := true }) ∨ (s.aborted = false ∧ Effect s t i) := by
  by_cases hs : isScan i = true
  · obtain ⟨r, hr⟩ := exec_scan i hs
    rw [hr, runScanRow_eq_next_iff] at h
    exact .inr ⟨h.1, .scan i _ _ _ hs h.2⟩
  cases i
  case putchar c =>
    obtain ⟨h1, v, hv, ht⟩ := (execPutchar_eq_next_iff c s t).1 h
    exact .inr ⟨h1, .putchar c v hv ht⟩
  case newline =>
    obtain ⟨h1, h2⟩ := execNewline_next s t h
    exact .inr ⟨h1, .newline h2⟩
  case writeAt x y g =>
    obtain ⟨h1, h2 | h2⟩ := runWriteAt_next s t x y g h
    · exact .inr ⟨h1, .writeOutside _ x y g (.inl rfl) h2.1 h2.2⟩
    · exact .inr ⟨h1, .writeInside _ x y g (.inl rfl) h2.1 h2.2.1 h2.2.2⟩
  case writeByte x y g =>
    obtain ⟨h1, h2 | h2⟩ := runWriteAt_next s t x y g h
    · exact .inr ⟨h1, .writeOutside _ x y g (.inr rfl) h2.1 h2.2⟩
    · exact .inr ⟨h1, .writeInside _ x y g (.inr rfl) h2.1 h2.2.1 h2.2.2⟩
  case clear =>
    obtain ⟨h1, h2⟩ := runCommand_ok_next s t
      (fun s => { s with cells := storeCells s.cells 0 (List.replicate 2000 (blankCell s)) }) h
    exact .inr ⟨h1, .clear h2⟩
  case setColor a =>
    obtain ⟨h1, h2⟩ := runCommand_ok_next s t (fun s => { s with currentColor := a }) h
    exact .inr ⟨h1, .setColor a h2⟩
  case setShape a b =>
    obtain ⟨h1, h2⟩ := runCommand_ok_next s t (Machine.setShape a b) h
    exact .inr ⟨h1, .setShape a b h2⟩
  case updateCursor =>
    obtain ⟨h1, h2⟩ := runCommand_ok_next s t Machine.updateCursor h
    exact .inr ⟨h1, .updateCursor h2⟩
  case getChar =>
    obtain ⟨h1, h2⟩ := runCommand_ok_next s t
      (fun s => (pollKeyboard s).2.withResult (.character (pollKeyboard s).1)) h
    exact .inr ⟨h1, .getChar h2⟩
  case getLine =>
    obtain ⟨h1, h2⟩ := runCommand_ok_next s t getLineTurn h
    exact .inr ⟨h1, .getLine h2⟩
  case lock =>
    obtain ⟨h1, h2 | h2⟩ := execLock_next s t h
    · exact .inr ⟨h1, .lockHeld h2.1 h2.2⟩
    · exact .inr ⟨h1, .lockFree h2.1 h2.2⟩
  case unlock =>
    obtain ⟨h1, h2, h3⟩ := execUnlock_next s t h
    exact .inr ⟨h1, .unlock h2 h3⟩
  case forceLock =>
    cases h
    exact .inl ⟨rfl, rfl⟩
  case leReset =>
    obtain ⟨h1, h2⟩ := runCommand_ok_next s t (cutTo 0) h
    exact .inr ⟨h1, .leReset h2⟩
  case advance b =>
    obtain ⟨h1, h2⟩ := runCommand_ok_next s t
      (fun s => (Machine.advance b s).2.withResult (.character (Machine.advance b s).1)) h
    rw [advance_eq] at h2
    exact .inr ⟨h1, .advance b _ _ _ h2⟩
  case cmdReservedE | cmdReservedF => cases h
  all_goals exact absurd rfl hs

end Sys2Proof.Machine
end

