-- ==== Sys2Proof/Laws/PerInstr.lean ====
section
/-! SUPPORT. The families of statements made for each instruction. -/

namespace Sys2Proof.Laws.CanonicalEncoding

/-- An instruction and the name its encoding reads back as have the same encoding, and are well-formed together
(30_encoding.md R85 (a)). -/
def Statement (i : Instr) : Prop :=
  encode i.canonical = encode i ∧ i.canonical.wellFormed = i.wellFormed

theorem scPrefix : Statement .scPrefix := ⟨rfl, rfl⟩
theorem scLctrlMk : Statement .scLctrlMk := ⟨rfl, rfl⟩
theorem scLctrlBk : Statement .scLctrlBk := ⟨rfl, rfl⟩
theorem scRctrlMk : Statement .scRctrlMk := ⟨rfl, rfl⟩
theorem scRctrlBk : Statement .scRctrlBk := ⟨rfl, rfl⟩
theorem scLshiftMk : Statement .scLshiftMk := ⟨rfl, rfl⟩
theorem scLshiftBk : Statement .scLshiftBk := ⟨rfl, rfl⟩
theorem scRshiftMk : Statement .scRshiftMk := ⟨rfl, rfl⟩
theorem scRshiftBk : Statement .scRshiftBk := ⟨rfl, rfl⟩
theorem scLaltMk : Statement .scLaltMk := ⟨rfl, rfl⟩
theorem scLaltBk : Statement .scLaltBk := ⟨rfl, rfl⟩
theorem scRaltMk : Statement .scRaltMk := ⟨rfl, rfl⟩
theorem scRaltBk : Statement .scRaltBk := ⟨rfl, rfl⟩
theorem scLsuperMk : Statement .scLsuperMk := ⟨rfl, rfl⟩
theorem scLsuperBk : Statement .scLsuperBk := ⟨rfl, rfl⟩
theorem scRsuperMk : Statement .scRsuperMk := ⟨rfl, rfl⟩
theorem scRsuperBk : Statement .scRsuperBk := ⟨rfl, rfl⟩
theorem scCapsMk : Statement .scCapsMk := ⟨rfl, rfl⟩
theorem scCapsBk : Statement .scCapsBk := ⟨rfl, rfl⟩
theorem scNumMk : Statement .scNumMk := ⟨rfl, rfl⟩
theorem scNumBk : Statement .scNumBk := ⟨rfl, rfl⟩
theorem scScrollMk : Statement .scScrollMk := ⟨rfl, rfl⟩
theorem scScrollBk : Statement .scScrollBk := ⟨rfl, rfl⟩
theorem scK1 : Statement .scK1 := ⟨rfl, rfl⟩
theorem scK2 : Statement .scK2 := ⟨rfl, rfl⟩
theorem scK3 : Statement .scK3 := ⟨rfl, rfl⟩
theorem scK4 : Statement .scK4 := ⟨rfl, rfl⟩
theorem scK5 : Statement .scK5 := ⟨rfl, rfl⟩
theorem scK6 : Statement .scK6 := ⟨rfl, rfl⟩
theorem scK7 : Statement .scK7 := ⟨rfl, rfl⟩
theorem scK8 : Statement .scK8 := ⟨rfl, rfl⟩
theorem scK9 : Statement .scK9 := ⟨rfl, rfl⟩
theorem scK0 : Statement .scK0 := ⟨rfl, rfl⟩
theorem scKMinus : Statement .scKMinus := ⟨rfl, rfl⟩
theorem scKEqual : Statement .scKEqual := ⟨rfl, rfl⟩
theorem scKQ : Statement .scKQ := ⟨rfl, rfl⟩
theorem scKW : Statement .scKW := ⟨rfl, rfl⟩
theorem scKE : Statement .scKE := ⟨rfl, rfl⟩
theorem scKR : Statement .scKR := ⟨rfl, rfl⟩
theorem scKT : Statement .scKT := ⟨rfl, rfl⟩
theorem scKY : Statement .scKY := ⟨rfl, rfl⟩
theorem scKU : Statement .scKU := ⟨rfl, rfl⟩
theorem scKI : Statement .scKI := ⟨rfl, rfl⟩
theorem scKO : Statement .scKO := ⟨rfl, rfl⟩
theorem scKP : Statement .scKP := ⟨rfl, rfl⟩
theorem scKLbracket : Statement .scKLbracket := ⟨rfl, rfl⟩
theorem scKRbracket : Statement .scKRbracket := ⟨rfl, rfl⟩
theorem scKA : Statement .scKA := ⟨rfl, rfl⟩
theorem scKS : Statement .scKS := ⟨rfl, rfl⟩
theorem scKD : Statement .scKD := ⟨rfl, rfl⟩
theorem scKF : Statement .scKF := ⟨rfl, rfl⟩
theorem scKG : Statement .scKG := ⟨rfl, rfl⟩
theorem scKH : Statement .scKH := ⟨rfl, rfl⟩
theorem scKJ : Statement .scKJ := ⟨rfl, rfl⟩
theorem scKK : Statement .scKK := ⟨rfl, rfl⟩
theorem scKL : Statement .scKL := ⟨rfl, rfl⟩
theorem scKSemicolon : Statement .scKSemicolon := ⟨rfl, rfl⟩
theorem scKQuote : Statement .scKQuote := ⟨rfl, rfl⟩
theorem scKBacktick : Statement .scKBacktick := ⟨rfl, rfl⟩
theorem scKBackslash : Statement .scKBackslash := ⟨rfl, rfl⟩
theorem scKZ : Statement .scKZ := ⟨rfl, rfl⟩
theorem scKX : Statement .scKX := ⟨rfl, rfl⟩
theorem scKC : Statement .scKC := ⟨rfl, rfl⟩
theorem scKV : Statement .scKV := ⟨rfl, rfl⟩
theorem scKB : Statement .scKB := ⟨rfl, rfl⟩
theorem scKN : Statement .scKN := ⟨rfl, rfl⟩
theorem scKM : Statement .scKM := ⟨rfl, rfl⟩
theorem scKComma : Statement .scKComma := ⟨rfl, rfl⟩
theorem scKPeriod : Statement .scKPeriod := ⟨rfl, rfl⟩
theorem scKSlash : Statement .scKSlash := ⟨rfl, rfl⟩
theorem scKp7 : Statement .scKp7 := ⟨rfl, rfl⟩
theorem scKp8 : Statement .scKp8 := ⟨rfl, rfl⟩
theorem scKp9 : Statement .scKp9 := ⟨rfl, rfl⟩
theorem scKpMinus : Statement .scKpMinus := ⟨rfl, rfl⟩
theorem scKp4 : Statement .scKp4 := ⟨rfl, rfl⟩
theorem scKp5 : Statement .scKp5 := ⟨rfl, rfl⟩
theorem scKp6 : Statement .scKp6 := ⟨rfl, rfl⟩
theorem scKpPlus : Statement .scKpPlus := ⟨rfl, rfl⟩
theorem scKp1 : Statement .scKp1 := ⟨rfl, rfl⟩
theorem scKp2 : Statement .scKp2 := ⟨rfl, rfl⟩
theorem scKp3 : Statement .scKp3 := ⟨rfl, rfl⟩
theorem scKp0 : Statement .scKp0 := ⟨rfl, rfl⟩
theorem scKpPeriod : Statement .scKpPeriod := ⟨rfl, rfl⟩
theorem scEsc : Statement .scEsc := ⟨rfl, rfl⟩
theorem scBksp : Statement .scBksp := ⟨rfl, rfl⟩
theorem scTab : Statement .scTab := ⟨rfl, rfl⟩
theorem scEnter : Statement .scEnter := ⟨rfl, rfl⟩
theorem scXenter : Statement .scXenter := ⟨rfl, rfl⟩
theorem scSpace : Statement .scSpace := ⟨rfl, rfl⟩
theorem scNone (k : ScanKey) : Statement (.scNone k) := ⟨rfl, rfl⟩
theorem putchar (c : Character) : Statement (.putchar c) := ⟨rfl, rfl⟩
theorem newline : Statement .newline := ⟨rfl, rfl⟩
theorem writeAt (x : Byte) (y : Byte) (g : Byte) : Statement (.writeAt x y g) := ⟨rfl, rfl⟩
theorem writeByte (x : Byte) (y : Byte) (g : Byte) : Statement (.writeByte x y g) := ⟨rfl, rfl⟩
theorem clear : Statement .clear := ⟨rfl, rfl⟩
theorem setColor (a : Byte) : Statement (.setColor a) := ⟨rfl, rfl⟩
theorem setShape (startLine : BitVec 6) (endLine : BitVec 5) : Statement (.setShape startLine endLine) := ⟨rfl, rfl⟩
theorem updateCursor : Statement .updateCursor := ⟨rfl, rfl⟩
theorem getChar : Statement .getChar := ⟨rfl, rfl⟩
theorem getLine : Statement .getLine := ⟨rfl, rfl⟩
theorem lock : Statement .lock := ⟨rfl, rfl⟩
theorem unlock : Statement .unlock := ⟨rfl, rfl⟩
theorem forceLock : Statement .forceLock := ⟨rfl, rfl⟩
theorem leReset : Statement .leReset := ⟨rfl, rfl⟩
theorem advance (b : Byte) : Statement (.advance b) := ⟨rfl, rfl⟩
theorem cmdReservedE (r : BitVec 28) : Statement (.cmdReservedE r) := ⟨rfl, rfl⟩
theorem cmdReservedF (r : BitVec 28) : Statement (.cmdReservedF r) := ⟨rfl, rfl⟩

end Sys2Proof.Laws.CanonicalEncoding
end

