-- ==== Sys2Proof/Tests/Slice0.lean ====
section
/-! SUPPORT. Tests: the checks of well-formedness, the decoding of words written out from the encoding tables, one-step
tests whose expected values are those of 95_test_vectors.md, and for each statement with hypotheses a state and operands
that meet them. -/

namespace Sys2Proof.Tests

open Sys2Proof Sys2Proof.Machine

/-! ### Well-formedness -/

theorem test_wellFormed_refuses_surrogate : (Instr.putchar 0xD800).wellFormed = false := by decide

theorem test_wellFormed_refuses_above_unicode : (Instr.putchar 0x110000).wellFormed = false := by decide

theorem test_wellFormed_refuses_none_at_a_keyed_key : (Instr.scNone 0x0E0).wellFormed = false := by decide

theorem test_wellFormed_accepts_the_bounds :
    (Instr.putchar 0xD7FF).wellFormed = true ∧ (Instr.putchar 0xE000).wellFormed = true ∧
      (Instr.putchar 0x10FFFF).wellFormed = true ∧ (Instr.scNone 0x1E0).wellFormed = true := by decide

/-! ### Decoding: every row's word, from 30_encoding.md R73 and R78 to R82 -/

def controlWords : List (ScanKey × Instr) :=
  [(0x0E0, .scPrefix), (0x01D, .scLctrlMk), (0x09D, .scLctrlBk), (0x11D, .scRctrlMk), (0x19D, .scRctrlBk),
   (0x02A, .scLshiftMk), (0x0AA, .scLshiftBk), (0x036, .scRshiftMk), (0x0B6, .scRshiftBk), (0x038, .scLaltMk),
   (0x0B8, .scLaltBk), (0x138, .scRaltMk), (0x1B8, .scRaltBk), (0x15B, .scLsuperMk), (0x1DB, .scLsuperBk),
   (0x15C, .scRsuperMk), (0x1DC, .scRsuperBk), (0x03A, .scCapsMk), (0x0BA, .scCapsBk), (0x045, .scNumMk),
   (0x0C5, .scNumBk), (0x046, .scScrollMk), (0x0C6, .scScrollBk)]

def printableWords : List (ScanKey × Instr) :=
  [(0x002, .scK1), (0x003, .scK2), (0x004, .scK3), (0x005, .scK4), (0x006, .scK5),
   (0x007, .scK6), (0x008, .scK7), (0x009, .scK8), (0x00A, .scK9), (0x00B, .scK0),
   (0x00C, .scKMinus), (0x00D, .scKEqual), (0x010, .scKQ), (0x011, .scKW), (0x012, .scKE),
   (0x013, .scKR), (0x014, .scKT), (0x015, .scKY), (0x016, .scKU), (0x017, .scKI),
   (0x018, .scKO), (0x019, .scKP), (0x01A, .scKLbracket), (0x01B, .scKRbracket), (0x01E, .scKA),
   (0x01F, .scKS), (0x020, .scKD), (0x021, .scKF), (0x022, .scKG), (0x023, .scKH),
   (0x024, .scKJ), (0x025, .scKK), (0x026, .scKL), (0x027, .scKSemicolon), (0x028, .scKQuote),
   (0x029, .scKBacktick), (0x02B, .scKBackslash), (0x02C, .scKZ), (0x02D, .scKX), (0x02E, .scKC),
   (0x02F, .scKV), (0x030, .scKB), (0x031, .scKN), (0x032, .scKM), (0x033, .scKComma),
   (0x034, .scKPeriod), (0x035, .scKSlash)]

def keypadWords : List (ScanKey × Instr) :=
  [(0x047, .scKp7), (0x048, .scKp8), (0x049, .scKp9), (0x04A, .scKpMinus), (0x04B, .scKp4),
   (0x04C, .scKp5), (0x04D, .scKp6), (0x04E, .scKpPlus), (0x04F, .scKp1), (0x050, .scKp2),
   (0x051, .scKp3), (0x052, .scKp0), (0x053, .scKpPeriod)]

def functionalWords : List (ScanKey × Instr) :=
  [(0x039, .scSpace), (0x01C, .scEnter), (0x11C, .scXenter), (0x00E, .scBksp), (0x00F, .scTab),
   (0x001, .scEsc)]

theorem test_decode_control_rows : ∀ p ∈ controlWords, decode (.key p.1) = .ok p.2 := by decide

theorem test_decode_printable_rows : ∀ p ∈ printableWords, decode (.key p.1) = .ok p.2 := by decide

theorem test_decode_keypad_rows : ∀ p ∈ keypadWords, decode (.key p.1) = .ok p.2 := by decide

theorem test_decode_functional_rows : ∀ p ∈ functionalWords, decode (.key p.1) = .ok p.2 := by decide

/-- Bit 8 of a key is the state, bits 7:0 the byte (R72): 1 and 0001_1100 is the extended Enter. -/
theorem test_decode_bits_of_a_key :
    decode (.key 0b100011100) = .ok .scXenter ∧ decode (.key 0b000011100) = .ok .scEnter ∧
      decode (.key 0b110011101) = .ok .scRctrlBk ∧ decode (.key 0b010011101) = .ok .scLctrlBk := by decide

/-- Keys 0x000, 0x037 (keypad asterisk), 0x03B (F1), 0x097 (a break), 0x117 and 0x1E0 have no row (R81). -/
theorem test_decode_unmatched_keys :
    ∀ k ∈ [(0x000 : ScanKey), 0x037, 0x03B, 0x097, 0x117, 0x12A, 0x1E0], decode (.key k) = .ok (.scNone k) := by decide

/-- The command words of R82, those of 95_test_vectors.md section 3 among them. -/
theorem test_decode_commands :
    decode (.word 0x0000004F) = .ok (.putchar 0x4F) ∧ decode (.word 0x0010FFFF) = .ok (.putchar 0x10FFFF) ∧
    decode (.word 0x10000000) = .ok .newline ∧ decode (.word 0x2001055A) = .ok (.writeAt 5 1 0x5A) ∧
    decode (.word 0x30000000) = .ok .clear ∧ decode (.word 0x4000001F) = .ok (.setColor 0x1F) ∧
    decode (.word 0x50000F0E) = .ok (.setShape 14 15) ∧ decode (.word 0x60000000) = .ok .updateCursor ∧
    decode (.word 0x70000000) = .ok .getChar ∧ decode (.word 0x80000000) = .ok .getLine ∧
    decode (.word 0x90000000) = .ok .lock ∧ decode (.word 0xA0000000) = .ok .unlock ∧
    decode (.word 0xB0000000) = .ok .forceLock ∧ decode (.word 0xC0000000) = .ok .leReset ∧
    decode (.word 0xD000002A) = .ok (.advance 0x2A) ∧ decode (.word 0xE0000001) = .ok (.cmdReservedE 1) ∧
    decode (.word 0xFFFFFFFF) = .ok (.cmdReservedF 0xFFFFFFF) := by decide

/-- The bits of a WRITE_AT word (R82): op 0010, bits 27:24 zero, y 23:16, x 15:8, glyph 7:0; and of a SETSHAPE word: op
0101, end 12:8, start 5:0. -/
theorem test_decode_bits_of_a_command :
    decode (.word 0b00100000000110000100111101011000) = .ok (.writeAt 79 24 0x58) ∧
      decode (.word 0b01010000000000000001111100111111) = .ok (.setShape 63 31) := by decide

/-- Words that spell no command (R83): a set bit outside the fields, a surrogate, a value above 0x10FFFF. -/
theorem test_decode_rejections :
    decode (.word 0x10000001) = .error (.nonZeroReservedBits 0x10000001) ∧
    decode (.word 0x00200000) = .error (.nonZeroReservedBits 0x00200000) ∧
    decode (.word 0x21000000) = .error (.nonZeroReservedBits 0x21000000) ∧
    decode (.word 0x40000100) = .error (.nonZeroReservedBits 0x40000100) ∧
    decode (.word 0x50000040) = .error (.nonZeroReservedBits 0x50000040) ∧
    decode (.word 0x50002000) = .error (.nonZeroReservedBits 0x50002000) ∧
    decode (.word 0xD0000100) = .error (.nonZeroReservedBits 0xD0000100) ∧
    decode (.word 0x0000D800) = .error (.notScalarValue 0x0000D800) ∧
    decode (.word 0x00110000) = .error (.notScalarValue 0x00110000) := by decide

theorem test_writeByte_shares_the_word :
    encode (.writeByte 5 1 0x5A) = .word 0x2001055A ∧ decode (.word 0x2001055A) = .ok (Instr.writeByte 5 1 0x5A).canonical := by
  decide

theorem test_decodeTableWord :
    decodeTableWord 16 0x0E0 = some .scPrefix ∧ decodeTableWord 16 0x11C = some .scXenter ∧
      decodeTableWord 16 0x200 = none ∧ decodeTableWord 32 0x0E0 = some (.putchar 0xE0) ∧
      decodeTableWord 32 0x10000001 = none := by decide

/-! ### One step: helpers -/

/-- The state after one step on a table word placed as the next operation, tested with `p`. -/
def stepTest (s : State) (nbits w : Nat) (p : State → Bool) : Bool :=
  match step (s.withFetchWord nbits w) with
  | .next t => p t
  | _ => false

/-- A read of cell `i` answers `v`. -/
def cellIs (s : State) (i : Nat) (v : CellWord) : Bool :=
  match cellRead i s with
  | .ok w => w == v
  | .error _ => false

/-- How a step on a table word placed as the next operation stops, if it does. -/
def stopOf (s : State) (nbits w : Nat) : Option (Fault ⊕ Refusal) :=
  match step (s.withFetchWord nbits w) with
  | .fault f => some (.inl f)
  | .refused r => some (.inr r)
  | .next _ => none

/-- The reset state with the cursor at (x, y). -/
def cursorAt (x : BitVec 7) (y : BitVec 5) : State := { State.reset with cursorX := x, cursorY := y }

/-- The reset state with the flags of a 14-bit word (10_state.md R15). -/
def flagged (w : BitVec 14) : State := { State.reset with mods := Mods.ofWord w }

/-- The reset state with one keyboard answer to come. -/
def polled (status data : Byte) : State :=
  { State.reset with kbd := { State.reset.kbd with pending := [⟨status, data⟩] } }

/-- A state with the line buffer holding `bs`. -/
def typed (s : State) (bs : List Byte) : State :=
  { s with line := Vector.ofFn fun i => bs.getD i.val 0, len := BitVec.ofNat 8 bs.length }

/-- An aborted, locked state. -/
def abortedState : State := { State.reset with locked := true, aborted := true, abortCause := 2 }

/-! ### One step: the decoder (95_test_vectors.md 2.1 to 2.6) -/

theorem test_step_prefix :
    stepTest State.reset 16 0x0E0 (fun t => t.dstate == .extendedPrefixSeen && t.result == .character none) = true := by
  decide

/-- From no flag set, each make sets its own flag. -/
theorem test_step_modifier_makes :
    ∀ p ∈ [(0x01D, (0x0001 : BitVec 14)), (0x11D, 0x0002), (0x02A, 0x0004), (0x036, 0x0008), (0x038, 0x0010), (0x138, 0x0020),
        (0x15B, 0x0040), (0x15C, 0x0080)],
      stepTest State.reset 16 p.1 (fun t => t.mods.toWord == p.2 && t.dstate == .neutral) = true := by decide

/-- From every flag set, each break clears its own flag. -/
theorem test_step_modifier_breaks :
    ∀ p ∈ [(0x09D, (0x3FFE : BitVec 14)), (0x19D, 0x3FFD), (0x0AA, 0x3FFB), (0x0B6, 0x3FF7), (0x0B8, 0x3FEF), (0x1B8, 0x3FDF),
        (0x1DB, 0x3FBF), (0x1DC, 0x3F7F)],
      stepTest (flagged 0x3FFF) 16 p.1 (fun t => t.mods.toWord == p.2 && t.result == .character none) = true := by decide

/-- Lock makes from no flag set, and with the key held down; lock breaks. -/
theorem test_step_lock_keys :
    ∀ p ∈ [((0x0000 : BitVec 14), 0x03A, (0x1200 : BitVec 14)), (0x1200, 0x03A, 0x1200), (0x1200, 0x0BA, 0x0200), (0x0200, 0x03A, 0x1000),
        (0x0000, 0x045, 0x0900), (0x0900, 0x0C5, 0x0100), (0x0000, 0x046, 0x2400), (0x2400, 0x0C6, 0x0400)],
      stepTest (flagged p.1) 16 p.2.1 (fun t => t.mods.toWord == p.2.2) = true := by decide

/-- Every printable row: unshifted from reset, shifted with Shift, unshifted again with Shift and CapsLock. -/
theorem test_step_printable_rows :
    ∀ r ∈ Claims.printableTable,
      stepTest State.reset 16 r.2.1.toNat (fun t => t.result == .character (some r.2.2.1)) = true ∧
      stepTest (flagged 0x0004) 16 r.2.1.toNat (fun t => t.result == .character (some r.2.2.2)) = true ∧
      stepTest (flagged 0x0208) 16 r.2.1.toNat (fun t => t.result == .character (some r.2.2.1)) = true := by decide

/-- CapsLock alone gives `!` for the key of 1 (the source's remark, S9); both Shifts held give `I` for the key of i. -/
theorem test_step_shifted_examples :
    stepTest (flagged 0x0200) 16 0x002 (fun t => t.result == .character (some 0x21)) = true ∧
      stepTest (flagged 0x000C) 16 0x017 (fun t => t.result == .character (some 0x49)) = true := by decide

/-- Every keypad row: nothing without NumLock; with it, whatever else is held, its digit. -/
theorem test_step_keypad_rows :
    ∀ p ∈ [(0x047, some (0x37 : Character)), (0x048, some 0x38), (0x049, some 0x39), (0x04A, none), (0x04B, some 0x34),
        (0x04C, some 0x35), (0x04D, some 0x36), (0x04E, none), (0x04F, some 0x31), (0x050, some 0x32), (0x051, some 0x33),
        (0x052, some 0x30), (0x053, some 0x2E)],
      stepTest (flagged 0x0204) 16 p.1 (fun t => t.result == .character none) = true ∧
      stepTest (flagged 0x0305) 16 p.1 (fun t => t.result == .character p.2) = true := by decide

/-- Every functional row, from reset and with Control, Shift and CapsLock on. -/
theorem test_step_functional_rows :
    ∀ p ∈ [(0x039, (0x20 : Character)), (0x01C, 0x0A), (0x11C, 0x0A), (0x00E, 0x08), (0x00F, 0x09), (0x001, 0x1B)],
      stepTest State.reset 16 p.1 (fun t => t.result == .character (some p.2)) = true ∧
      stepTest (flagged 0x0205) 16 p.1 (fun t => t.result == .character (some p.2) && t.dstate == .neutral) = true := by decide

theorem test_step_unmatched :
    stepTest State.reset 16 0x097 (fun t => t.result == .character none && t.mods == Mods.none) = true ∧
      stepTest State.reset 16 0x12A (fun t => t.dstate == .neutral && t.mods == Mods.none) = true := by decide

/-- ADVANCE 0x1C is Enter in both states; a second 0xE0 is no prefix (D6). -/
theorem test_step_advance :
    stepTest { State.reset with dstate := .extendedPrefixSeen } 32 0xD000001C
      (fun t => t.result == .character (some 0x0A) && t.dstate == .neutral) = true ∧
    stepTest { State.reset with dstate := .extendedPrefixSeen } 32 0xD00000E0
      (fun t => t.result == .character none && t.dstate == .neutral) = true := by decide

/-! ### One step: the display (95_test_vectors.md 2.7 to 2.9) -/

theorem test_step_putchar_glyph :
    stepTest (cursorAt 79 0) 32 0x0000007A
      (fun t => cellIs t 79 0x077A && t.cursorX == 0 && t.cursorY == 1 && t.crtc.offsetLow == 0x50) = true := by
  decide

theorem test_step_putchar_controls :
    stepTest (cursorAt 5 3) 32 0x0A (fun t => t.cursorX == 0 && t.cursorY == 4 && t.crtc.offsetHigh == 0x01 && t.crtc.offsetLow == 0x40)
      = true ∧
    stepTest (cursorAt 5 3) 32 0x0D (fun t => t.cursorX == 0 && t.cursorY == 3 && t.crtc.offsetLow == 0xF0) = true ∧
    stepTest (cursorAt 4 0) 32 0x09 (fun t => t.cursorX == 8 && t.cursorY == 0 && t.cells == []) = true ∧
    stepTest (cursorAt 76 2) 32 0x09 (fun t => t.cursorX == 0 && t.cursorY == 3 && t.crtc.offsetLow == 0xF0) = true := by decide

theorem test_step_putchar_last_cell :
    stepTest (cursorAt 79 24) 32 0x51
      (fun t => cellIs t 1919 0x0751 && cellIs t 1920 0x0720 && t.cursorX == 0 && t.cursorY == 24) = true := by
  decide +kernel

/-- The glyphs at the bounds of each range (R221, R222): a control character, 0x20, 0x7E, 0x7F, the first above it. -/
theorem test_glyphs :
    resolve 0x08 = Config.replacementGlyph ∧ resolve 0x1F = Config.replacementGlyph ∧ resolve 0x20 = 0x20 ∧
      resolve 0x7E = 0x7E ∧ resolve 0x7F = Config.replacementGlyph ∧
      resolve 0x80 = (Config.extraGlyph 0x80).getD Config.replacementGlyph := ⟨rfl, rfl, rfl, rfl, rfl, rfl⟩

/-- No step for a cell index of 2000, read or written (20_memory.md R44). -/
theorem test_cell_2000_is_stuck :
    cellRead 2000 State.reset = .error (.stuck (.cellIndexOutOfRange 2000)) ∧
      cellWrite 2000 0x0741 State.reset = .error (.stuck (.cellIndexOutOfRange 2000)) ∧
      cellIs { State.reset with cells := storeCells [] 1999 [0x0741] } 1999 0x0741 = true := ⟨rfl, rfl, by decide⟩

theorem test_step_newline :
    stepTest (cursorAt 17 5) 32 0x10000000 (fun t => t.cursorX == 0 && t.cursorY == 6 && t.crtc == State.reset.crtc) = true := by
  decide

/-- Rows move with their attributes; the new row takes the current colour. -/
theorem test_step_newline_scrolls :
    stepTest { cursorAt 17 24 with currentColor := 0x1E, cells := storeCells (storeCells [] 80 [0x0741]) 1999 [0x4F5A] } 32 0x10000000
      (fun t => cellIs t 0 0x0741 && cellIs t 1919 0x4F5A && cellIs t 1920 0x1E20 &&
        cellIs t 1999 0x1E20 && t.cursorY == 24) = true := by decide +kernel

theorem test_step_updateCursor :
    stepTest (cursorAt 79 24) 32 0x60000000 (fun t => t.crtc.offsetLow == 0xCF && t.crtc.offsetHigh == 0x07 && t.crtc.index == 0x0E)
      = true ∧
    stepTest (cursorAt 16 3) 32 0x60000000
      (fun t => t.trace == [.write8 0x3D5 0x01, .write8 0x3D4 0x0E, .write8 0x3D5 0x00, .write8 0x3D4 0x0F]) = true := by decide

theorem test_step_setShape :
    stepTest { State.reset with crtc := ⟨0x2D, 0x6E, 0, 0, 0⟩ } 32 0x50000F00
      (fun t => t.crtc.cursorStart == 0x00 && t.crtc.cursorEnd == 0x6F) = true ∧
    stepTest { State.reset with crtc := ⟨0xFF, 0xFF, 0, 0, 0⟩ } 32 0x50000F0E
      (fun t => t.crtc.cursorStart == 0xCE && t.crtc.cursorEnd == 0xEF) = true := by decide

theorem test_step_writeAt :
    stepTest { State.reset with currentColor := 0x4F } 32 0x20020358 (fun t => cellIs t 163 0x4F58 && t.cursorX == 0) = true ∧
    stepTest State.reset 32 0x20184FDB (fun t => cellIs t 1999 0x07DB) = true := by decide

theorem test_step_writeAt_out_of_range :
    stepTest State.reset 32 0x20005041 (fun t => t.aborted && t.abortCause == 2 && t.cells == []) = true ∧
      stepTest State.reset 32 0x20190041 (fun t => t.aborted && t.abortCause == 2 && t.cells == []) = true := by decide

theorem test_exec_writeByte :
    exec (.writeByte 3 2 0x58) State.reset = .next { State.reset with cells := storeCells [] 163 [0x0758] } := rfl

theorem test_step_clear :
    stepTest { cursorAt 9 9 with currentColor := 0x1F } 32 0x30000000
      (fun t => cellIs t 0 0x1F20 && cellIs t 1999 0x1F20 && t.cursorX == 9 && t.cells.length == 4000) = true := by
  decide +kernel

theorem test_step_setColor :
    stepTest { State.reset with cells := storeCells [] 0 [0x0741] } 32 0x4000004F
      (fun t => t.currentColor == 0x4F && cellIs t 0 0x0741) = true := by decide

/-! ### One step: poll, line editor, lock, abort (95_test_vectors.md 2.10, 2.11; R260) -/

theorem test_step_getChar :
    stepTest (polled 0x1D 0x17) 32 0x70000000
      (fun t => t.result == .character (some 0x69) && t.kbd.status == 0x1C && t.trace == [.read8 0x60 0x17, .read8 0x64 0x1D]) = true ∧
    stepTest (polled 0x1C 0x17) 32 0x70000000
      (fun t => t.result == .character none && t.kbd.data == 0 && t.trace == [.read8 0x64 0x1C]) = true := by decide

/-- Enter ends the line; another character leaves the GETLINE in progress. -/
theorem test_step_getLine :
    stepTest (typed (polled 0x01 0x1C) [0x6C, 0x73]) 32 0x80000000
      (fun t => t.result == .line [0x6C, 0x73] && t.len == 0 && !t.lineActive) = true ∧
    stepTest (typed (polled 0x01 0x1E) [0x6C, 0x73]) 32 0x80000000
      (fun t => t.lineActive && bufferBytes t == [0x6C, 0x73, 0x61]) = true := by decide +kernel

/-- Word-delete of "foo bar", "foo bar ", "foo  " and of an empty buffer, with Control held. -/
theorem test_wordDelete :
    bufferBytes (leStep 0x08 (typed (flagged 0x0001) [0x66, 0x6F, 0x6F, 0x20, 0x62, 0x61, 0x72])).2 = [0x66, 0x6F, 0x6F] ∧
    bufferBytes (leStep 0x08 (typed (flagged 0x0001) [0x66, 0x6F, 0x6F, 0x20, 0x62, 0x61, 0x72, 0x20])).2 =
      [0x66, 0x6F, 0x6F, 0x20, 0x62, 0x61, 0x72] ∧
    bufferBytes (leStep 0x08 (typed (flagged 0x0002) [0x66, 0x6F, 0x6F, 0x20, 0x20])).2 = [0x66, 0x6F, 0x6F] ∧
    bufferBytes (leStep 0x08 (typed (flagged 0x0002) [])).2 = [] := by decide

/-- Backspace and append; a full buffer drops the character. -/
theorem test_append_and_backspace :
    bufferBytes (leStep 0x62 (typed State.reset [0x61])).2 = [0x61, 0x62] ∧
    bufferBytes (leStep 0x08 (typed State.reset [0x61, 0x62, 0x63])).2 = [0x61, 0x62] ∧
    (leStep 0x78 (typed State.reset (List.replicate 128 0x61))).2 = typed State.reset (List.replicate 128 0x61) := by decide +kernel

theorem test_step_leReset :
    stepTest (typed State.reset [0x61, 0x62, 0x63]) 32 0xC0000000 (fun t => t.len == 0 && bufferBytes t == []) = true := by decide

theorem test_step_lock :
    stepTest State.reset 32 0x90000000 (fun t => t.locked && !t.aborted) = true ∧
    stepTest { State.reset with locked := true } 32 0x90000000 (fun t => t.locked && t.aborted && t.abortCause == 1) = true := by
  decide

theorem test_step_unlock :
    stepTest { State.reset with locked := true } 32 0xA0000000 (fun t => !t.locked) = true ∧
      stopOf State.reset 32 0xA0000000 = some (.inr .unlockWhileUnlocked) := by decide

theorem test_step_forceLock :
    stepTest { State.reset with locked := true } 32 0xB0000000 (fun t => t.locked && !t.aborted) = true ∧
      stepTest abortedState 32 0xB0000000 (fun t => t.locked && t.aborted && t.abortCause == 2) = true := by decide

theorem test_step_aborted_block_stops :
    stopOf abortedState 32 0x00000041 = some (.inl .blockAborted) ∧
      stopOf abortedState 16 0x0E0 = some (.inl .blockAborted) := by decide

theorem test_step_reserved :
    stopOf State.reset 32 0xE0000000 = some (.inr .reservedCommandE) ∧
      stopOf State.reset 32 0xF0000001 = some (.inr .reservedCommandF) := by decide

theorem test_step_malformed :
    stopOf State.reset 32 0x10000001 = some (.inr (.nonZeroReservedBits 0x10000001)) ∧
      stopOf State.reset 32 0x0000DFFF = some (.inr (.notScalarValue 0x0000DFFF)) := by decide

/-! ### The hypotheses of the statements are met -/

theorem witness_StepRunsDecodedOperation :
    ({ State.reset with host := [.command 0x30000000] } : State).lineActive = false ∧
    ({ State.reset with host := [.command 0x30000000] } : State).host = .command 0x30000000 :: [] ∧
    decode (.word 0x30000000) = .ok .clear ∧ Instr.clear.wellFormed = true ∧
    decode (.key (keyOf .neutral 0x17)) = .ok .scKI ∧ Instr.scKI.wellFormed = true := by decide

theorem witness_StepContinuesLineOrIdles :
    ({ State.reset with lineActive := true } : State).lineActive = true ∧
    State.reset.lineActive = false ∧ State.reset.host = [] := by decide

/-- A reserved op, a set bit outside the fields, a surrogate: each spells no command. -/
theorem witness_UnspelledWordIsRefused :
    State.reset.lineActive = false ∧
    (State.reset.withFetchWord 32 0xE0000000).host = .command 0xE0000000 :: [] ∧ ¬ Claims.spellsCommand 0xE0000000 ∧
    ¬ Claims.spellsCommand 0x10000001 ∧ ¬ Claims.spellsCommand 0x0000D800 := by
  refine ⟨rfl, rfl, fun h => absurd h.1 (by decide), fun h => ?_, fun h => absurd (h.2.2 (by decide)) (by decide)⟩
  exact absurd (h.2.1 0 (by decide) (by decide)) (by decide)

theorem witness_DecodeEncodeRoundTrip :
    (Instr.putchar 0x10FFFF).wellFormed = true ∧ (Instr.scNone 0x1FF).wellFormed = true ∧
    (Instr.writeByte 255 255 255).wellFormed = true := by decide

theorem witness_EncodeDecodeRoundTrip :
    decode (.key 0x1FF) = .ok (.scNone 0x1FF) ∧ decode (.word 0x50001F3F) = .ok (.setShape 63 31) := by decide

/-- A state that is not aborted, for the statements that ask for no more: ModifierMakesSetTheirFlag,
ModifierBreaksClearTheirFlag, LockKeysToggleOnEdges, PrefixByteOpensExtendedState, AdvanceTransition,
PutcharLineFeedIsNewlineThenUpdate, PutcharCarriageReturn, CursorOverflowNeverRaised, ClearFillsTheGrid,
SetColorSetsTheColour, UpdateCursorPushesTheOffset, SetShapeKeepsMaskedBits,
GetLineTurnIsGetCharThenLineStep, LeResetEmptiesTheBuffer. -/
theorem witness_live : State.reset.live ∧ (cursorAt 79 24).live ∧ (flagged 0x3FFF).live := by decide

theorem witness_ModifierWriteModes : Mods.none.held .lctrl = false ∧ (Mods.ofWord 0x3F7F).held .rsuper = false := by decide

theorem witness_HeldLockKeyTogglesOnce :
    Mods.none.lockPressed .caps = false ∧ (Mods.ofWord 0x1FFF).lockPressed .scroll = false := by decide

theorem witness_PrintableEntriesShiftByXor :
    (.scK1, 0x02, 0x31, 0x21) ∈ Claims.printableTable ∧ (.scKSlash, 0x35, 0x2F, 0x3F) ∈ Claims.printableTable ∧
    State.reset.live := by decide

theorem witness_KeypadEntriesGatedByNumLock :
    (.scKp7, 0x47, some 0x37) ∈ Claims.keypadTable ∧ (.scKpPeriod, 0x53, some 0x2E) ∈ Claims.keypadTable ∧
    (flagged 0x0100).live ∧ (flagged 0x0100).mods.numLock = true := by decide

theorem witness_FunctionalEntriesYieldTheirCharacter :
    (.scSpace, 0x039, 0x20) ∈ Claims.functionalTable ∧ (.scXenter, 0x11C, 0x0A) ∈ Claims.functionalTable ∧
    State.reset.live := by decide

theorem witness_UnmatchedKeysYieldNothing :
    (Instr.scNone 0x000).wellFormed = true ∧ (Instr.scNone 0x1FF).wellFormed = true ∧ State.reset.live := by decide

theorem witness_AdvanceRunsTheSelectedEntry :
    decode (.key (keyOf State.reset.dstate 0x2A)) = .ok .scLshiftMk ∧
    decode (.key (keyOf .extendedPrefixSeen 0x2A)) = .ok (.scNone 0x12A) := by decide

/-- ADVANCE 0x17 from reset yields `i`: for CharacterLeavesFlags and DecoderCharacterSet. -/
theorem witness_CharacterLeavesFlags :
    exec (.advance 0x17) State.reset = .next { State.reset with result := .character (some 0x69) } := rfl

theorem witness_DecoderCharacterSet :
    exec (.advance 0x29) (flagged 0x0004) = .next { flagged 0x0004 with result := .character (some 0x7E) } := rfl

theorem witness_BreakBytesYieldNothing :
    State.reset.live ∧ 0x80 ≤ (0x80 : Byte).toNat ∧ 0x80 ≤ (0xFF : Byte).toNat := by decide

/-- The left Shift in one state, the right Shift with Control, Alt and a held lock key in the other. -/
theorem witness_OutputIgnoresOtherFlags :
    (flagged 0x0004).live ∧ (flagged 0x1019).live ∧ (flagged 0x0004).dstate = (flagged 0x1019).dstate ∧
    ((flagged 0x0004).mods.lshift || (flagged 0x0004).mods.rshift) = ((flagged 0x1019).mods.lshift || (flagged 0x1019).mods.rshift) ∧
    (flagged 0x0004).mods.capsLock = (flagged 0x1019).mods.capsLock ∧
    (flagged 0x0004).mods.numLock = (flagged 0x1019).mods.numLock := by decide

/-- Column 79 of row 23, and column 78 of the last row; a character at each bound of the three ranges of glyphs. -/
theorem witness_PutcharWritesGlyphAndAdvances :
    (cursorAt 79 23).live ∧ (cursorAt 79 23).cursorInGrid ∧
    ¬ ((cursorAt 79 23).cursorX.toNat = 79 ∧ (cursorAt 79 23).cursorY.toNat = 24) ∧
    (cursorAt 78 24).live ∧ (cursorAt 78 24).cursorInGrid ∧
    ¬ ((cursorAt 78 24).cursorX.toNat = 79 ∧ (cursorAt 78 24).cursorY.toNat = 24) ∧
    ([0x08, 0x1F, 0x20, 0x7E, 0x7F, 0x80, 0x10FFFF] : List Character).all (fun c => c != 0x0A && c != 0x0D && c != 0x09) = true := by decide

theorem witness_PutcharInLastCellScrolls :
    (cursorAt 79 24).live ∧ (cursorAt 79 24).cursorX.toNat = 79 ∧ (cursorAt 79 24).cursorY.toNat = 24 ∧
    ([0x51, 0x1F, 0x20, 0x7E, 0x7F, 0x80] : List Character).all (fun c => c != 0x0A && c != 0x0D && c != 0x09) = true := by decide

/-- Column 75 goes to 76; columns 76 and 79 wrap. -/
theorem witness_PutcharTabStops :
    (cursorAt 75 2).live ∧ (cursorAt 75 2).cursorInGrid ∧ (cursorAt 75 2).cursorX.toNat < 76 ∧
    (cursorAt 76 24).live ∧ (cursorAt 76 24).cursorInGrid ∧ 76 ≤ (cursorAt 76 24).cursorX.toNat ∧
    (cursorAt 79 24).cursorInGrid := by decide

theorem witness_PutcharIsTotal : (cursorAt 79 24).live ∧ (cursorAt 79 24).cursorInGrid := by decide

theorem witness_NewlineMovesOrScrolls :
    (cursorAt 0 23).live ∧ (cursorAt 0 23).cursorY.toNat < 24 ∧ (cursorAt 0 24).live ∧ (cursorAt 0 24).cursorY.toNat = 24 := by
  decide

theorem witness_RepeatedNewlinesScrollTheTopAway : State.reset.live ∧ State.reset.cursorY.toNat ≤ 24 ∧
    (cursorAt 0 24).cursorY.toNat ≤ 24 := by decide

theorem witness_CursorOverflowNeverRaised :
    exec (.putchar 0x0D) State.reset = .next (updateCursor State.reset) := rfl

theorem witness_WriteAtInRangeWritesOneCell :
    State.reset.live ∧ (79 : Byte).toNat < 80 ∧ (24 : Byte).toNat < 25 ∧ (0 : Byte).toNat < 80 ∧ (0 : Byte).toNat < 25 := by decide

theorem witness_WriteAtOutOfRangeAborts : State.reset.live ∧ 80 ≤ (80 : Byte).toNat ∧ 25 ≤ (25 : Byte).toNat := by decide

theorem witness_DisplayCommandsKeepDecoderAndLine :
    Claims.isDisplayCommand .newline = true ∧
    exec .newline State.reset = .next { State.reset with cursorY := 1 } := ⟨rfl, rfl⟩

/-- A byte that is not ready, and one that is. -/
theorem witness_GetCharSamplesOnce :
    (polled 0x1C 0x17).live ∧ (polled 0x1C 0x17).kbd.answer.1.status.getLsbD 0 = false ∧
    (polled 0x1D 0x17).live ∧ (polled 0x1D 0x17).kbd.answer.1.status.getLsbD 0 = true := by decide

/-- One status read whose bit 0 is 0, and one whose bit 0 is 1. -/
theorem witness_GetCharNeverWaits :
    (polled 0x1C 0x17).live ∧ ((polled 0x1C 0x17).kbd.readStatus.1).getLsbD 0 = false ∧
    (polled 0x1D 0x17).live ∧ ((polled 0x1D 0x17).kbd.readStatus.1).getLsbD 0 = true := by decide

theorem witness_LineAppendsOrDrops :
    (0x61 : Character) ≠ 0x0A ∧ (0x61 : Character) ≠ 0x08 ∧ State.reset.len.toNat < 128 ∧
    ({ State.reset with len := 127 } : State).len.toNat < 128 ∧ ({ State.reset with len := 128 } : State).len.toNat = 128 := by decide

theorem witness_LineBackspaceRemovesLast :
    State.reset.mods.lctrl = false ∧ State.reset.mods.rctrl = false ∧ State.reset.len.toNat ≤ 128 ∧
    ({ State.reset with len := 128 } : State).len.toNat ≤ 128 := by decide

theorem witness_LineWordDelete :
    ((flagged 0x0001).mods.lctrl || (flagged 0x0001).mods.rctrl) = true ∧ (flagged 0x0001).len.toNat ≤ 128 ∧
    ((flagged 0x0002).mods.lctrl || (flagged 0x0002).mods.rctrl) = true := by decide

theorem witness_LockAcquiresOrAborts :
    State.reset.live ∧ State.reset.locked = false ∧
    ({ State.reset with locked := true } : State).live ∧ ({ State.reset with locked := true } : State).locked = true := by decide

theorem witness_UnlockReleasesTheLock :
    ({ State.reset with locked := true } : State).live ∧ ({ State.reset with locked := true } : State).locked = true ∧
    State.reset.live ∧ State.reset.locked = false := by decide

theorem witness_AbortedBlockAcceptsOnlyForceLock :
    abortedState.aborted = true ∧ Instr.lock ≠ .forceLock ∧ Claims.isReserved .lock = false := by decide

theorem witness_AbortsComeFromLockOrRange :
    exec .lock { State.reset with locked := true } =
      .next { State.reset with locked := true, aborted := true, abortCause := 1 } ∧
    exec (.writeAt 80 24 0x58) State.reset = .next { State.reset with aborted := true, abortCause := 2 } := ⟨rfl, rfl⟩

theorem witness_AbortIsSticky :
    abortedState.aborted = true ∧
    step (abortedState.withFetchWord 32 0xB0000000) = .next abortedState := ⟨rfl, rfl⟩

theorem witness_LockBitHasThreeWriters :
    Claims.isLockCommand .leReset = false ∧ Claims.isLockCommand (.setColor 0x1F) = false ∧
    exec (.setColor 0x1F) State.reset = .next { State.reset with currentColor := 0x1F } := ⟨rfl, rfl, rfl⟩

theorem witness_ColourHasOneWriter :
    exec (.setColor 0x1F) State.reset = .next { State.reset with currentColor := 0x1F } ∧
    ({ State.reset with currentColor := 0x1F } : State).currentColor ≠ State.reset.currentColor := ⟨rfl, by decide⟩

theorem witness_StepKeepsInvariant :
    State.reset.Inv ∧ (cursorAt 79 24).Inv ∧ step (State.reset.withFetchWord 32 0x4000001F) =
      .next { State.reset with currentColor := 0x1F } := by
  refine ⟨⟨by decide, by decide, by decide, by decide⟩, ⟨by decide, by decide, by decide, by decide⟩, rfl⟩

/-- The addresses just below and just above display memory; the last index with a meaning and the first without. -/
theorem witness_StepStaysInsideDisplayMemory :
    (cursorAt 79 24).Inv ∧ 0xB7FFF < 0xB8000 ∧ 0xB8000 + 4000 ≤ 0xB8FA0 ∧ 1999 < 2000 ∧ 2000 ≤ 2000 ∧
    step (State.reset.withFetchWord 32 0x2000005A) = .next { State.reset with cells := storeCells [] 0 [0x075A] } := by
  refine ⟨⟨by decide, by decide, by decide, by decide⟩, by decide, by decide, by decide, by decide, rfl⟩

end Sys2Proof.Tests
end

section
/-! What reset leaves, and the invariant every step keeps. -/

namespace Sys2Proof.Machine

/-! ### Reset -/

/-- Settles O1: the registers by evaluation; a cell of the grid is read, and no byte of it has been written. -/
theorem resetLeavesDecidedValues : Obligations.ResetLeavesDecidedValues :=
  ⟨rfl, rfl, rfl, rfl, by decide, rfl, rfl, rfl, fun _ hi => cellRead_inGrid State.reset hi⟩

/-- Settles O58: the cursor and the line are at 0, no cell has been written and no abort has happened. -/
theorem resetMeetsInvariant : Obligations.ResetMeetsInvariant where
  cursor := by decide
  line := by decide
  cells := reset_cells_wf
  abortRecord := by decide

/-! ### The invariant under the shared operations -/

/-- The invariant does not speak of the result. -/
theorem State.Inv.withResult {s : State} (h : s.Inv) (r : Result) : (s.withResult r).Inv :=
  ⟨h.cursor, h.line, h.cells, h.abortRecord⟩

theorem State.Inv.updateCursor {s : State} (h : s.Inv) : (updateCursor s).Inv := by
  rw [updateCursor_eq]
  exact ⟨h.cursor, h.line, h.cells, h.abortRecord⟩

theorem State.Inv.setShape {s : State} (h : s.Inv) (a : BitVec 6) (b : BitVec 5) : (setShape a b s).Inv := by
  rw [setShape_eq]
  exact ⟨h.cursor, h.line, h.cells, h.abortRecord⟩

/-- Cells of the grid written. -/
theorem State.Inv.storeCells {s : State} (h : s.Inv) {i : Nat} {vs : List CellWord}
    (hi : i + vs.length ≤ Config.ncells) : { s with cells := storeCells s.cells i vs }.Inv :=
  ⟨h.cursor, h.line, storeCells_wf _ _ _ h.cells hi, h.abortRecord⟩

/-- An abort with any cause but CURSOR_OVERFLOW. -/
theorem State.Inv.abortEntry {s : State} (h : s.Inv) {c : AbortCause} (hc : c ≠ .cursorOverflow) :
    (abortEntry c s).Inv := by
  refine ⟨h.cursor, h.line, h.cells, fun _ => ?_⟩
  cases c with
  | doubleLock => exact .inl rfl
  | cellRange => exact .inr rfl
  | cursorOverflow => exact absurd rfl hc

/-- The line editor's length cut. -/
theorem State.Inv.cutTo {s : State} (h : s.Inv) {n : Nat} (hn : n ≤ 128) : (cutTo n s).Inv where
  cursor := by simpa only [State.cursorInGrid, cutTo_cursorX, cutTo_cursorY] using h.cursor
  line := by rw [State.lineInRange, cutTo_len, BitVec.toNat_ofNat]; omega
  cells := by simpa only [cutTo_cells] using h.cells
  abortRecord := by simpa only [State.abortRecordLegal, cutTo_aborted, cutTo_abortCause] using h.abortRecord

theorem State.Inv.pollKeyboard {s : State} (h : s.Inv) : (pollKeyboard s).2.Inv := by
  rw [pollKeyboard_frame]
  exact ⟨h.cursor, h.line, h.cells, h.abortRecord⟩

theorem State.Inv.getLineTurn {s : State} (h : s.Inv) : (getLineTurn s).Inv := by
  have hline := getLineTurn_len_le s h.line
  rw [getLineTurn_frame]
  exact ⟨h.cursor, hline, h.cells, h.abortRecord⟩

theorem afterNewline_cells_wf {s : State} (h : s.cells.wf) : (afterNewline s).cells.wf := by
  by_cases hy : s.cursorY.toNat < 24
  · rw [afterNewline_above hy]; exact h
  · rw [afterNewline_lastRow hy]; exact scrolled_wf s h

/-- A newline step brings the cursor into the grid wherever it was. -/
theorem afterNewline_cursorInGrid (s : State) : (afterNewline s).cursorInGrid := by
  refine ⟨by simp, ?_⟩
  rw [afterNewline_cursorY_toNat]
  split <;> omega

/-- A newline step establishes the invariant where only the cursor may have left the grid. -/
theorem afterNewline_inv {s : State} (hline : s.lineInRange) (hcells : s.cells.wf) (habort : s.abortRecordLegal) :
    (afterNewline s).Inv where
  cursor := afterNewline_cursorInGrid s
  line := by simpa only [State.lineInRange, afterNewline_len] using hline
  cells := afterNewline_cells_wf hcells
  abortRecord := by
    simpa only [State.abortRecordLegal, afterNewline_aborted, afterNewline_abortCause] using habort

/-! ### The invariant under PUTCHAR -/

/-- The next tab stop after a column of the grid is at most the column past its end. -/
theorem nextTabStop_le {x : Nat} (h : x ≤ 79) : nextTabStop x ≤ 80 := by
  simp only [nextTabStop, Config.tabStop]
  omega

theorem cursorOffset_lt {s : State} (h : s.cursorInGrid) : cursorOffset s < 2000 := by
  obtain ⟨hx, hy⟩ := h
  simp only [cursorOffset, cellIndex, Config.width]
  omega

/-- PUTCHAR's case leaves the row in the grid and the column at most one past its end, where the wrap check meets it. -/
theorem putcharCase_bounds {c : Character} {s v : State} (h : s.cursorInGrid) (hm : s.cells.wf)
    (hv : putcharCase c s = .ok v) : v.cursorX.toNat ≤ 80 ∧ v.cursorY.toNat ≤ 24 ∧ v.cells.wf := by
  obtain ⟨hx, hy⟩ := h
  unfold putcharCase at hv
  split at hv
  case isTrue =>
    rw [newlineStep_eq] at hv
    cases hv
    exact ⟨by simp, (afterNewline_cursorInGrid s).2, afterNewline_cells_wf hm⟩
  split at hv
  case isTrue => cases hv; exact ⟨by simp, hy, hm⟩
  split at hv
  case isTrue =>
    cases hv
    exact ⟨by simpa using (Nat.mod_le _ _).trans (nextTabStop_le hx), hy, hm⟩
  case isFalse =>
    have hi := cursorOffset_lt ⟨hx, hy⟩
    rw [putGlyph, cellWrite_inGrid _ _ hi, ok_bind] at hv
    cases hv
    have hnext : (BitVec.ofNat 7 (s.cursorX.toNat + 1)).toNat ≤ 80 := by
      rw [BitVec.toNat_ofNat]
      omega
    exact ⟨hnext, hy, storeCells_wf _ _ _ hm hi⟩

/-- PUTCHAR, from its case through the wrap check to the hardware cursor. -/
theorem State.Inv.putchar {c : Character} {s v : State} (h : s.Inv) (hv : putcharCase c s = .ok v) :
    (Machine.updateCursor (if 80 ≤ v.cursorX.toNat then afterNewline v else v)).Inv := by
  obtain ⟨hx, hy, hm⟩ := putcharCase_bounds h.cursor h.cells hv
  have hf := putcharCase_frame c s v hv
  have hline : v.lineInRange := by rw [hf]; exact h.line
  have habort : v.abortRecordLegal := by rw [hf]; exact h.abortRecord
  refine State.Inv.updateCursor ?_
  split
  case isTrue => exact afterNewline_inv hline hm habort
  case isFalse hlt => exact ⟨⟨by omega, hy⟩, hline, hm, habort⟩

/-! ### The invariant under an instruction and a step -/

/-- Every effect of an instruction keeps the invariant. -/
theorem Effect.keeps_inv {s t : State} {i : Instr} (he : Effect s t i) (h : s.Inv) : t.Inv := by
  have h0 : (s.withResult .unit).Inv := h.withResult .unit
  cases he with
  | scan _ _ _ _ _ ht => subst ht; exact ⟨h.cursor, h.line, h.cells, h.abortRecord⟩
  | advance _ _ _ _ ht => subst ht; exact ⟨h.cursor, h.line, h.cells, h.abortRecord⟩
  | putchar _ _ hv ht => subst ht; exact h0.putchar hv
  | newline ht => subst ht; exact afterNewline_inv h0.line h0.cells h0.abortRecord
  | writeOutside _ _ _ _ _ _ ht => subst ht; exact h0.abortEntry (by decide)
  | writeInside _ _ _ _ _ hx hy ht =>
    subst ht
    refine h0.storeCells ?_
    simp only [cellIndex, Config.width, Config.ncells, List.length_singleton]
    omega
  | clear ht => subst ht; exact h0.storeCells (by rw [List.length_replicate])
  | setColor _ ht => subst ht; exact ⟨h.cursor, h.line, h.cells, h.abortRecord⟩
  | setShape a b ht => subst ht; exact h0.setShape a b
  | updateCursor ht => subst ht; exact h0.updateCursor
  | getChar ht => subst ht; exact h0.pollKeyboard.withResult _
  | getLine ht => subst ht; exact h0.getLineTurn
  | lockHeld _ ht => subst ht; exact h0.abortEntry (by decide)
  | lockFree _ ht => subst ht; exact ⟨h.cursor, h.line, h.cells, h.abortRecord⟩
  | unlock _ ht => subst ht; exact ⟨h.cursor, h.line, h.cells, h.abortRecord⟩
  | leReset ht => subst ht; exact h0.cutTo (by decide)

/-- An instruction that answers a next state keeps the invariant. -/
theorem exec_keeps_inv {i : Instr} {s t : State} (h : s.Inv) (hst : exec i s = .next t) : t.Inv := by
  obtain ⟨-, rfl⟩ | ⟨-, he⟩ := exec_next_effect i s t hst
  · exact ⟨h.cursor, h.line, h.cells, h.abortRecord⟩
  · exact he.keeps_inv h

/-- A step that answers a next state leaves the state as it is, or runs an instruction in it, with or without the
host's first operation taken. -/
theorem step_eq_next_cases {s t : State} (h : step s = .next t) :
    t = s ∨ exec .getLine s = .next t ∨ ∃ i rest, exec i { s with host := rest } = .next t := by
  unfold step fetch at h
  by_cases ha : s.lineActive = true
  · rw [if_pos ha] at h
    exact .inr (.inl h)
  · rw [if_neg ha] at h
    cases hh : s.host with
    | nil =>
      rw [hh] at h
      cases h
      exact .inl rfl
    | cons op rest =>
      rw [hh] at h
      dsimp only at h
      cases hd : decode (codeOf s.dstate op) with
      | ok i => rw [hd] at h; exact .inr (.inr ⟨i, rest, h⟩)
      | error e => rw [hd] at h; cases h

/-- Settles O59: by the cases of a step, and of what an instruction can do. -/
theorem stepKeepsInvariant : Obligations.StepKeepsInvariant := by
  unfold Obligations.StepKeepsInvariant
  intro s t h hst
  obtain rfl | hline | ⟨i, rest, hop⟩ := step_eq_next_cases hst
  · exact h
  · exact exec_keeps_inv h hline
  · have hrest : { s with host := rest }.Inv := ⟨h.cursor, h.line, h.cells, h.abortRecord⟩
    exact exec_keeps_inv hrest hop

end Sys2Proof.Machine
end

section
/-! The colour's one writer, and that no instruction but the three lock commands reads or writes the lock. -/

namespace Sys2Proof.Machine

/-! ### The colour -/

@[simp] theorem setShape_currentColor (a : BitVec 6) (b : BitVec 5) (s : State) :
    (setShape a b s).currentColor = s.currentColor := by rw [setShape_eq]

@[simp] theorem pollKeyboard_currentColor (s : State) : (pollKeyboard s).2.currentColor = s.currentColor := by
  rw [pollKeyboard_frame]

@[simp] theorem getLineTurn_currentColor (s : State) : (getLineTurn s).currentColor = s.currentColor := by
  rw [getLineTurn_frame]

/-- PUTCHAR reads the colour and does not write it. -/
theorem putcharCase_currentColor {c : Character} {s v : State} (h : putcharCase c s = .ok v) :
    v.currentColor = s.currentColor := by
  rw [putcharCase_frame c s v h]

/-- An effect keeps the colour, or is that of SETCOLOR. -/
theorem Effect.currentColor {s t : State} {i : Instr} (he : Effect s t i) :
    t.currentColor = s.currentColor ∨ i = .setColor t.currentColor := by
  cases he with
  | setColor _ ht => subst ht; exact .inr rfl
  | putchar _ v hv ht =>
    subst ht
    have hcolour : v.currentColor = s.currentColor := by
      rw [putcharCase_currentColor hv, State.withResult_currentColor]
    left
    rw [updateCursor_currentColor]
    split
    · rw [afterNewline_currentColor, hcolour]
    · exact hcolour
  | clear ht => subst ht; exact .inl rfl
  | _ => subst t; left; simp

/-- Settles O57: by the effects an instruction can have. -/
theorem colourHasOneWriter : Obligations.ColourHasOneWriter := by
  unfold Obligations.ColourHasOneWriter
  intro i s t hst hne
  obtain ⟨-, rfl⟩ | ⟨-, he⟩ := exec_next_effect i s t hst
  · exact absurd rfl hne
  · exact he.currentColor.resolve_left hne

/-! ### The lock: each shared operation runs the same under another value of it -/

/-- The state with another value of the lock. -/
def State.setLocked (s : State) (b : Bool) : State := { s with locked := b }

/-- A run with another value of the lock in the state it goes on in or raises an abort in. -/
def Run.setLocked (b : Bool) : Run → Run
  | .ok s => .ok (s.setLocked b)
  | .error (.raised s) => .error (.raised (s.setLocked b))
  | .error (.stuck f) => .error (.stuck f)

/-- An outcome with another value of the lock in its next state. -/
def Outcome.setLocked (b : Bool) : Outcome → Outcome
  | .next s => .next (s.setLocked b)
  | .fault f => .fault f
  | .refused r => .refused r

/-- A rule that neither reads nor writes the lock. -/
def IgnoresLock (rule : State → Run) : Prop := ∀ (s : State) (b : Bool), rule (s.setLocked b) = (rule s).setLocked b

/-- A state of the same lock is the same state. -/
theorem State.setLocked_self (s : State) : s.setLocked s.locked = s := rfl

theorem finish_setLocked (r : Run) (b : Bool) : finish (r.setLocked b) = (finish r).setLocked b := by
  rcases r with (s | f) | s <;> rfl

/-- A command whose rule ignores the lock ignores it. -/
theorem runCommand_setLocked {rule : State → Run} (h : IgnoresLock rule) (s : State) (b : Bool) :
    runCommand (s.setLocked b) rule = Outcome.setLocked b (runCommand s rule) := by
  cases ha : s.aborted
  · rw [runCommand_live rule ha, runCommand_live (s := s.setLocked b) rule ha, ← finish_setLocked,
      ← h (s.withResult .unit) b]
    rfl
  · rw [runCommand_aborted rule ha, runCommand_aborted (s := s.setLocked b) rule ha]
    rfl

/-- A rule that goes on to what it makes of the state ignores the lock when that does. -/
theorem ignoresLock_of_map {f : State → State} (h : ∀ s b, f (s.setLocked b) = (f s).setLocked b) :
    IgnoresLock fun s => .ok (f s) :=
  fun s b => congrArg Except.ok (h s b)

/-- Two rules in a row. -/
theorem IgnoresLock.bind {f g : State → Run} (hf : IgnoresLock f) (hg : IgnoresLock g) :
    IgnoresLock fun s => f s >>= g := by
  intro s b
  show f (s.setLocked b) >>= g = Run.setLocked b (f s >>= g)
  rw [hf s b]
  rcases f s with (t | e) | t
  · rfl
  · rfl
  · exact hg t b

theorem raiseAbort_ignoresLock (c : AbortCause) : IgnoresLock (raiseAbort c) := fun _ _ => rfl

theorem cellWrite_ignoresLock (i : Nat) (v : CellWord) : IgnoresLock (cellWrite i v) := by
  intro s b
  unfold cellWrite
  split <;> rfl

theorem afterNewline_setLocked (s : State) (b : Bool) :
    afterNewline (s.setLocked b) = (afterNewline s).setLocked b := by
  by_cases h : s.cursorY.toNat < 24
  · rw [afterNewline_above h, afterNewline_above (s := s.setLocked b) h]; rfl
  · rw [afterNewline_lastRow h, afterNewline_lastRow (s := s.setLocked b) h]; rfl

theorem newlineStep_ignoresLock : IgnoresLock newlineStep := by
  rw [show newlineStep = fun s => .ok (afterNewline s) from funext newlineStep_eq]
  exact ignoresLock_of_map afterNewline_setLocked

theorem putGlyph_ignoresLock (c : Character) : IgnoresLock (putGlyph c) := by
  intro s b
  have hwrite := cellWrite_ignoresLock (cursorOffset s) (cellOf s.currentColor (resolve c))
  exact IgnoresLock.bind hwrite (ignoresLock_of_map
    (f := fun s => { s with cursorX := BitVec.ofNat 7 (s.cursorX.toNat + 1) }) fun _ _ => rfl) s b

theorem putcharCase_ignoresLock (c : Character) : IgnoresLock (putcharCase c) := by
  intro s b
  unfold putcharCase
  split
  · exact newlineStep_ignoresLock s b
  split
  · rfl
  split
  · rfl
  · exact putGlyph_ignoresLock c s b

theorem wrapCheck_ignoresLock : IgnoresLock wrapCheck := by
  intro s b
  unfold wrapCheck
  show (if Config.width ≤ s.cursorX.toNat then _ else _) = _
  split
  · exact newlineStep_ignoresLock s b
  · rfl

theorem updateCursor_setLocked (s : State) (b : Bool) :
    updateCursor (s.setLocked b) = (updateCursor s).setLocked b := by
  rw [updateCursor_eq, updateCursor_eq]
  rfl

theorem setShape_setLocked (x : BitVec 6) (y : BitVec 5) (s : State) (b : Bool) :
    setShape x y (s.setLocked b) = (setShape x y s).setLocked b := by
  rw [setShape_eq, setShape_eq]
  rfl

theorem writeAtRule_ignoresLock (x y g : Byte) : IgnoresLock (writeAtRule x y g) := by
  intro s b
  unfold writeAtRule
  split
  · exact raiseAbort_ignoresLock _ s b
  · exact cellWrite_ignoresLock _ (cellOf s.currentColor g) s b

theorem advance_setLocked (x : Byte) (s : State) (b : Bool) :
    advance x (s.setLocked b) = ((advance x s).1, (advance x s).2.setLocked b) := by
  rw [advance_eq, advance_eq]
  rfl

theorem portRead8_setLocked (p : Port) (s : State) (b : Bool) :
    portRead8 p (s.setLocked b) = ((portRead8 p s).1, (portRead8 p s).2.setLocked b) := by
  unfold portRead8
  split
  · rfl
  split <;> rfl

theorem pollKeyboard_setLocked (s : State) (b : Bool) :
    pollKeyboard (s.setLocked b) = ((pollKeyboard s).1, (pollKeyboard s).2.setLocked b) := by
  simp only [pollKeyboard, portRead8_setLocked, advance_setLocked]
  split <;> rfl

theorem cutTo_setLocked (n : Nat) (s : State) (b : Bool) : cutTo n (s.setLocked b) = (cutTo n s).setLocked b := by
  unfold cutTo
  rfl

theorem trimRun_setLocked (p : Byte → Bool) (s : State) (b : Bool) (n : Nat) :
    trimRun p (s.setLocked b) n = trimRun p s n := by
  induction n with
  | zero => rfl
  | succ n ih =>
    rw [trimRun, trimRun, ih]
    rfl

theorem leBackspace_setLocked (s : State) (b : Bool) : leBackspace (s.setLocked b) = (leBackspace s).setLocked b := by
  unfold leBackspace
  show (if 0 < s.len.toNat then _ else _) = _
  split
  · exact cutTo_setLocked _ s b
  · rfl

theorem leWordDelete_setLocked (s : State) (b : Bool) :
    leWordDelete (s.setLocked b) = (leWordDelete s).setLocked b := by
  rw [leWordDelete, trimRun_setLocked, trimRun_setLocked, cutTo_setLocked]
  rfl

theorem leAppend_setLocked (c : Character) (s : State) (b : Bool) :
    leAppend c (s.setLocked b) = (leAppend c s).setLocked b := by
  unfold leAppend
  show (if s.len.toNat < Config.lineCap then _ else _) = _
  split <;> rfl

theorem leStep_setLocked (c : Character) (s : State) (b : Bool) :
    leStep c (s.setLocked b) = ((leStep c s).1, (leStep c s).2.setLocked b) := by
  unfold leStep
  show (if c = 0x0A then _ else if c = 0x08 then if s.mods.ctrlHeld then _ else _ else _) = _
  split
  · exact congrArg (Prod.mk _) (cutTo_setLocked 0 s b)
  split
  · split
    · exact congrArg (Prod.mk _) (leWordDelete_setLocked s b)
    · exact congrArg (Prod.mk _) (leBackspace_setLocked s b)
  · exact congrArg (Prod.mk _) (leAppend_setLocked c s b)

theorem getLineTurn_setLocked (s : State) (b : Bool) : getLineTurn (s.setLocked b) = (getLineTurn s).setLocked b := by
  unfold getLineTurn
  rw [pollKeyboard_setLocked]
  obtain ⟨o, t⟩ := pollKeyboard s
  cases o with
  | none => rfl
  | some c =>
    dsimp only
    rw [leStep_setLocked]
    obtain ⟨l, u⟩ := leStep c t
    cases l <;> rfl

/-! ### The lock: the instructions -/

/-- Every instruction but the three lock commands ignores the lock. -/
theorem exec_setLocked {i : Instr} (hi : Claims.isLockCommand i = false) (s : State) (b : Bool) :
    exec i (s.setLocked b) = Outcome.setLocked b (exec i s) := by
  by_cases hs : isScan i = true
  · obtain ⟨r, hr⟩ := exec_scan i hs
    rw [hr, hr]
    exact runCommand_setLocked (fun _ _ => rfl) s b
  cases i
  case lock | unlock | forceLock => cases hi
  case putchar c =>
    exact runCommand_setLocked ((putcharCase_ignoresLock c).bind
      (wrapCheck_ignoresLock.bind (ignoresLock_of_map updateCursor_setLocked))) s b
  case newline => exact runCommand_setLocked newlineStep_ignoresLock s b
  case writeAt x y g | writeByte x y g => exact runCommand_setLocked (writeAtRule_ignoresLock x y g) s b
  case clear =>
    unfold exec execClear
    exact runCommand_setLocked (fun _ _ => rfl) s b
  case setColor a =>
    unfold exec execSetColor
    exact runCommand_setLocked (fun _ _ => rfl) s b
  case setShape x y => exact runCommand_setLocked (ignoresLock_of_map (setShape_setLocked x y)) s b
  case updateCursor => exact runCommand_setLocked (ignoresLock_of_map updateCursor_setLocked) s b
  case getChar =>
    unfold exec execGetChar
    refine runCommand_setLocked (fun s b => ?_) s b
    rw [pollKeyboard_setLocked]
    rfl
  case getLine => exact runCommand_setLocked (ignoresLock_of_map getLineTurn_setLocked) s b
  case leReset => exact runCommand_setLocked (ignoresLock_of_map (cutTo_setLocked 0)) s b
  case advance x =>
    unfold exec execAdvance
    refine runCommand_setLocked (fun s b => ?_) s b
    rw [advance_setLocked]
    rfl
  case cmdReservedE | cmdReservedF => rfl
  all_goals exact absurd rfl hs

/-- Settles O56: the same run under another value of the lock; with the lock's own value, that run says that the lock is
kept. -/
theorem lockBitHasThreeWriters : Obligations.LockBitHasThreeWriters := by
  unfold Obligations.LockBitHasThreeWriters
  intro i s t b hi hst
  have hrun (c : Bool) : exec i (s.setLocked c) = .next (t.setLocked c) := by
    rw [exec_setLocked hi, hst]
    rfl
  have hkept : t.locked = (t.setLocked s.locked).locked := by
    have hself := hrun s.locked
    rw [State.setLocked_self, hst] at hself
    exact congrArg State.locked (Host.Outcome.next.inj hself)
  exact ⟨hrun b, hkept⟩

end Sys2Proof.Machine
end

section
/-! What a step runs, that no step leaves display memory, and the three lock commands. -/

namespace Sys2Proof.Machine

/-! ### A step, by what there is to do -/

theorem step_lineActive {s : State} (h : s.lineActive = true) : step s = exec .getLine s := by
  simp [step, fetch, h]

theorem step_idle {s : State} (ha : s.lineActive = false) (hh : s.host = []) : step s = .next s := by
  simp [step, fetch, ha, hh]

theorem step_operation {s : State} {op : HostOp} {rest : List HostOp} {i : Instr} (ha : s.lineActive = false)
    (hh : s.host = op :: rest) (hd : decode (codeOf s.dstate op) = .ok i) :
    step s = exec i { s with host := rest } := by
  simp [step, fetch, ha, hh, hd]

theorem step_unspelled {s : State} {op : HostOp} {rest : List HostOp} {e : DecodeError} (ha : s.lineActive = false)
    (hh : s.host = op :: rest) (hd : decode (codeOf s.dstate op) = .error e) :
    step s = .refused (refusalOf e) := by
  simp [step, fetch, ha, hh, hd]

/-- A step that ends in a fault ends in the fault of the instruction it runs. -/
theorem step_eq_fault_cases {s : State} {f : Fault} (h : step s = .fault f) :
    exec .getLine s = .fault f ∨ ∃ i rest, exec i { s with host := rest } = .fault f := by
  by_cases ha : s.lineActive = true
  · rw [step_lineActive ha] at h
    exact .inl h
  · have hidle : s.lineActive = false := eq_false_of_ne_true ha
    cases hh : s.host with
    | nil => rw [step_idle hidle hh] at h; cases h
    | cons op rest =>
      cases hd : decode (codeOf s.dstate op) with
      | ok i => rw [step_operation hidle hh hd] at h; exact .inr ⟨i, rest, h⟩
      | error e => rw [step_unspelled hidle hh hd] at h; cases h

/-- Settles O2: the code the statement names is the one the step decodes. -/
theorem stepRunsDecodedOperation : Obligations.StepRunsDecodedOperation := by
  unfold Obligations.StepRunsDecodedOperation
  intro s op rest i ha hh hd _
  have hcode : decode (codeOf s.dstate op) = .ok i := by cases op <;> exact hd
  exact step_operation ha hh hcode

/-! ### The fault of a cell index out of range -/

/-- If a command ends in a fault, the block was aborted, or its rule is stuck with that fault. -/
theorem runCommand_eq_fault_iff (s : State) (rule : State → Run) (f : Fault) :
    runCommand s rule = .fault f ↔
      s.aborted = true ∧ f = .blockAborted ∨
        s.aborted = false ∧ rule (s.withResult .unit) = .error (.stuck f) := by
  cases ha : s.aborted
  · simp [runCommand_live rule ha, finish_eq_fault_iff]
  · simp [runCommand_aborted rule ha, eq_comm]

/-- A rule that has a step from every state. -/
def NeverStuck (rule : State → Run) : Prop := ∀ (s : State) (f : Fault), rule s ≠ .error (.stuck f)

theorem neverStuck_ok (g : State → State) : NeverStuck fun s => .ok (g s) := by
  intro s f h
  cases h

theorem newlineStep_neverStuck : NeverStuck newlineStep := by
  rw [show newlineStep = fun s => .ok (afterNewline s) from funext newlineStep_eq]
  exact neverStuck_ok afterNewline

/-- WRITE_AT checks its coordinates before it writes, so the cell it writes is one of the grid
(42_display_write.md R230). -/
theorem writeAtRule_neverStuck (x y g : Byte) : NeverStuck (writeAtRule x y g) := by
  intro s f h
  unfold writeAtRule at h
  split at h
  · cases h
  · have hcell : cellIndex x.toNat y.toNat < 2000 := by
      simp only [cellIndex, Config.width, Config.height] at *
      omega
    rw [cellWrite_inGrid _ _ hcell] at h
    cases h

/-- A command whose rule always has a step meets no cell index out of range. -/
theorem runCommand_ne_cellFault {rule : State → Run} (hr : NeverStuck rule) (s : State) (j : Nat) :
    runCommand s rule ≠ .fault (.cellIndexOutOfRange j) := by
  intro h
  obtain ⟨-, hf⟩ | ⟨-, hstuck⟩ := (runCommand_eq_fault_iff _ _ _).1 h
  · cases hf
  · exact hr _ _ hstuck

/-- A command whose rule goes on to what `g` makes of the state meets no cell index out of range. -/
theorem runCommand_ok_ne_cellFault (s : State) (g : State → State) (j : Nat) :
    runCommand s (fun s => .ok (g s)) ≠ .fault (.cellIndexOutOfRange j) :=
  runCommand_ne_cellFault (neverStuck_ok g) s j

theorem execLock_ne_cellFault (s : State) (j : Nat) : execLock s ≠ .fault (.cellIndexOutOfRange j) := by
  refine runCommand_ne_cellFault (fun s f h => ?_) s j
  split at h <;> cases h

theorem execUnlock_ne_cellFault (s : State) (j : Nat) : execUnlock s ≠ .fault (.cellIndexOutOfRange j) := by
  unfold execUnlock
  split
  · exact nofun
  · exact runCommand_ok_ne_cellFault s _ j

/-- PUTCHAR meets a cell index out of range only where the cursor is outside the grid. -/
theorem execPutchar_cellFault {c : Character} {s : State} {j : Nat}
    (h : execPutchar c s = .fault (.cellIndexOutOfRange j)) : 2000 ≤ cursorOffset s := by
  obtain ⟨-, hf⟩ | ⟨-, hstuck⟩ := (runCommand_eq_fault_iff _ _ _).1 h
  · cases hf
  · obtain ⟨v, hv⟩ | ⟨-, hout⟩ := putcharCase_cases c (s.withResult .unit)
    · rw [hv, ok_bind, wrapCheck_eq, ok_bind] at hstuck
      cases hstuck
    · exact hout

/-- PUTCHAR with the cursor outside the grid is the one way to meet a cell index out of range. -/
theorem exec_cellFault {i : Instr} {s : State} {j : Nat} (h : exec i s = .fault (.cellIndexOutOfRange j)) :
    (∃ c, i = .putchar c) ∧ 2000 ≤ cursorOffset s := by
  by_cases hs : isScan i = true
  · obtain ⟨r, hr⟩ := exec_scan i hs
    rw [hr] at h
    exact absurd h (runCommand_ok_ne_cellFault s _ j)
  cases i
  case putchar c => exact ⟨⟨c, rfl⟩, execPutchar_cellFault h⟩
  case newline => exact absurd h (runCommand_ne_cellFault newlineStep_neverStuck s j)
  case writeAt x y g | writeByte x y g =>
    exact absurd h (runCommand_ne_cellFault (writeAtRule_neverStuck x y g) s j)
  case clear =>
    exact absurd h (runCommand_ok_ne_cellFault s
      (fun s => { s with cells := storeCells s.cells 0 (List.replicate 2000 (blankCell s)) }) j)
  case setColor a => exact absurd h (runCommand_ok_ne_cellFault s (fun s => { s with currentColor := a }) j)
  case setShape a b => exact absurd h (runCommand_ok_ne_cellFault s (Machine.setShape a b) j)
  case updateCursor => exact absurd h (runCommand_ok_ne_cellFault s Machine.updateCursor j)
  case getChar =>
    exact absurd h (runCommand_ok_ne_cellFault s
      (fun s => (pollKeyboard s).2.withResult (.character (pollKeyboard s).1)) j)
  case getLine => exact absurd h (runCommand_ok_ne_cellFault s getLineTurn j)
  case leReset => exact absurd h (runCommand_ok_ne_cellFault s (cutTo 0) j)
  case advance b =>
    exact absurd h (runCommand_ok_ne_cellFault s
      (fun s => (Machine.advance b s).2.withResult (.character (Machine.advance b s).1)) j)
  case lock => exact absurd h (execLock_ne_cellFault s j)
  case unlock => exact absurd h (execUnlock_ne_cellFault s j)
  case forceLock | cmdReservedE | cmdReservedF => cases h
  all_goals exact absurd rfl hs

/-- With the cursor in the grid no step meets a cell index out of range (20_memory.md R44). -/
theorem step_ne_cellFault {s : State} (h : s.cursorInGrid) (j : Nat) :
    step s ≠ .fault (.cellIndexOutOfRange j) := by
  intro hst
  have hcursor : cursorOffset s < 2000 := cursorOffset_lt h
  obtain hline | ⟨i, rest, hop⟩ := step_eq_fault_cases hst
  · exact absurd (exec_cellFault hline).2 (Nat.not_le.2 hcursor)
  · exact absurd (exec_cellFault hop).2 (Nat.not_le.2 hcursor)

/-! ### The bytes outside display memory -/

/-- Every byte outside the 4000 bytes of display memory reads in both memories alike. -/
def Memory.SameOutside (m n : Memory) : Prop :=
  ∀ a : Nat, a < 0xB8000 ∨ 0xB8000 + 4000 ≤ a → n.byteAt a = m.byteAt a

theorem Memory.SameOutside.refl (m : Memory) : m.SameOutside m := fun _ _ => rfl

theorem Memory.SameOutside.trans {l m n : Memory} (h : l.SameOutside m) (h' : m.SameOutside n) :
    l.SameOutside n := fun a ha => (h' a ha).trans (h a ha)

/-- Cells of the grid lie inside display memory. -/
theorem sameOutside_storeCells (m : Memory) {i : Nat} {vs : List CellWord} (h : i + vs.length ≤ 2000) :
    m.SameOutside (storeCells m i vs) := by
  intro a ha
  apply byteAt_storeCells_outside
  simp only [cellAddr, Config.displayBase]
  omega

theorem sameOutside_afterNewline (s : State) : s.cells.SameOutside (afterNewline s).cells := by
  by_cases hy : s.cursorY.toNat < 24
  · rw [afterNewline_above hy]
    exact .refl _
  · rw [afterNewline_lastRow hy]
    exact sameOutside_storeCells s.cells (by rw [length_scrolledCells])

theorem sameOutside_putcharCase {c : Character} {s v : State} (hv : putcharCase c s = .ok v) :
    s.cells.SameOutside v.cells := by
  unfold putcharCase at hv
  split at hv
  case isTrue =>
    rw [newlineStep_eq] at hv
    cases hv
    exact sameOutside_afterNewline s
  split at hv
  case isTrue => cases hv; exact .refl _
  split at hv
  case isTrue => cases hv; exact .refl _
  case isFalse =>
    unfold putGlyph at hv
    by_cases hi : cursorOffset s < 2000
    · rw [cellWrite_inGrid _ _ hi, ok_bind] at hv
      cases hv
      exact sameOutside_storeCells s.cells hi
    · rw [cellWrite_outside _ _ (Nat.le_of_not_lt hi)] at hv
      cases hv

/-- Every effect of an instruction keeps the bytes outside display memory. -/
theorem Effect.sameOutside {s t : State} {i : Instr} (he : Effect s t i) : s.cells.SameOutside t.cells := by
  cases he with
  | putchar _ v hv ht =>
    subst ht
    have hcase : s.cells.SameOutside v.cells := sameOutside_putcharCase (s := s.withResult .unit) hv
    rw [updateCursor_cells]
    split
    · exact hcase.trans (sameOutside_afterNewline v)
    · exact hcase
  | newline ht => subst ht; exact sameOutside_afterNewline (s.withResult .unit)
  | writeInside _ _ _ _ _ hx hy ht =>
    subst ht
    refine sameOutside_storeCells s.cells ?_
    simp only [cellIndex, Config.width, List.length_singleton]
    omega
  | clear ht => subst ht; exact sameOutside_storeCells s.cells (by rw [List.length_replicate])
  | setShape a b ht => subst ht; rw [setShape_eq]; exact .refl _
  | updateCursor ht => subst ht; rw [updateCursor_cells]; exact .refl _
  | getChar ht => subst ht; rw [State.withResult_cells, pollKeyboard_frame]; exact .refl _
  | getLine ht => subst ht; rw [getLineTurn_frame]; exact .refl _
  | leReset ht => subst ht; rw [cutTo_cells]; exact .refl _
  | _ => subst t; exact .refl _

theorem exec_sameOutside {i : Instr} {s t : State} (h : exec i s = .next t) : s.cells.SameOutside t.cells := by
  obtain ⟨-, rfl⟩ | ⟨-, he⟩ := exec_next_effect i s t h
  · exact .refl _
  · exact he.sameOutside

theorem step_sameOutside {s t : State} (h : step s = .next t) : s.cells.SameOutside t.cells := by
  obtain rfl | hline | ⟨i, rest, hop⟩ := step_eq_next_cases h
  · exact .refl _
  · exact exec_sameOutside hline
  · exact exec_sameOutside (s := { s with host := rest }) hop

/-- Settles O60: only PUTCHAR with the cursor outside the grid meets an index without a meaning, and every effect stores
cells of the grid alone. -/
theorem stepStaysInsideDisplayMemory : Obligations.StepStaysInsideDisplayMemory := by
  unfold Obligations.StepStaysInsideDisplayMemory
  refine ⟨fun s i h => step_ne_cellFault h.cursor i, fun s t a hst ha => step_sameOutside hst a ha,
    fun s i v => ⟨fun hi => ?_, fun hi => ?_⟩⟩
  · exact ⟨⟨_, cellRead_inGrid s hi⟩, _, cellWrite_inGrid v s hi⟩
  · exact ⟨cellRead_outside s hi, cellWrite_outside v s hi⟩

/-! ### The lock commands -/

theorem execLock_free {s : State} (ha : s.aborted = false) (hl : s.locked = false) :
    execLock s = .next { s with locked := true, result := .unit } := by
  rw [execLock, runCommand_live _ ha, State.withResult_locked, if_neg (by simp [hl])]
  rfl

theorem execLock_held {s : State} (ha : s.aborted = false) (hl : s.locked = true) :
    execLock s = .next (abortEntry .doubleLock (s.withResult .unit)) := by
  rw [execLock, runCommand_live _ ha, State.withResult_locked, if_pos hl]
  rfl

theorem execUnlock_held {s : State} (ha : s.aborted = false) (hl : s.locked = true) :
    execUnlock s = .next { s with locked := false, result := .unit } := by
  rw [execUnlock, if_neg (by simp [hl]), runCommand_live _ ha]
  rfl

theorem execUnlock_free {s : State} (ha : s.aborted = false) (hl : s.locked = false) :
    execUnlock s = .refused .unlockWhileUnlocked := by
  rw [execUnlock, if_pos ⟨ha, hl⟩]

/-- FORCE_LOCK reads nothing of the state, not even the abort record. -/
theorem execForceLock_eq (s : State) : execForceLock s = .next { s with locked := true, result := .unit } := rfl

/-- Settles O49: the compare-and-set in its two cases; a held lock ends in abort entry. -/
theorem lockAcquiresOrAborts : Obligations.LockAcquiresOrAborts := by
  unfold Obligations.LockAcquiresOrAborts
  exact ⟨by decide, fun _ ha => ⟨execLock_free ha, execLock_held ha⟩⟩

/-- Settles O50: the release, and the refusal where there is nothing to release. -/
theorem unlockReleasesTheLock : Obligations.UnlockReleasesTheLock := by
  unfold Obligations.UnlockReleasesTheLock
  exact ⟨by decide, fun _ ha => ⟨execUnlock_held ha, execUnlock_free ha⟩⟩

/-- Settles O51: FORCE_LOCK has one case. -/
theorem forceLockAlwaysAcquires : Obligations.ForceLockAlwaysAcquires :=
  ⟨by decide, execForceLock_eq⟩

end Sys2Proof.Machine
end

section
/-! The encoding: the dispatch keys, the layout of a command word, and that decoder and encoder are inverse to each other
(30_encoding.md R72, R78 to R83). -/

namespace Sys2Proof.Machine

/-! ### The dispatch keys -/

theorem keyMap_row : ∀ p ∈ keyMap, p.1.isKeyed = true ∧ encode p.2 = .key p.1 ∧ p.2.wellFormed = true := by decide +kernel

/-- The ranges of `isKeyed` hold no key without a row. -/
theorem keyed_subset_keyMap :
    (List.range 512).filter (fun n => ScanKey.isKeyed (BitVec.ofNat 9 n)) ⊆ keyMap.map fun p => p.1.toNat := by
  decide +kernel

theorem isKeyed_iff_mem_keyMap (k : ScanKey) : k.isKeyed = true ↔ ∃ i, (k, i) ∈ keyMap := by
  refine ⟨fun h => ?_, fun ⟨_, hi⟩ => (keyMap_row _ hi).1⟩
  have hk : k.toNat ∈ keyMap.map fun p => p.1.toNat := keyed_subset_keyMap (by simp [h, k.isLt])
  obtain ⟨⟨k', i⟩, hi, hkk⟩ := List.mem_map.mp hk
  obtain rfl : k' = k := BitVec.eq_of_toNat_eq hkk
  exact ⟨i, hi⟩

/-- A key selects a row of its own, or the default. -/
theorem decodeKey_cases (k : ScanKey) :
    (k, decodeKey k) ∈ keyMap ∨ k.isKeyed = false ∧ decodeKey k = .scNone k := by
  cases h : keyMap.lookup k with
  | some i =>
    obtain ⟨l₁, l₂, hl, -⟩ := List.lookup_eq_some_iff.mp h
    have hi : decodeKey k = i := by rw [decodeKey, h, Option.getD_some]
    exact .inl (by simp [hi, hl])
  | none =>
    refine .inr ⟨eq_false_of_ne_true fun hk => ?_, by rw [decodeKey, h, Option.getD_none]⟩
    obtain ⟨i, hi⟩ := (isKeyed_iff_mem_keyMap k).mp hk
    simpa using List.lookup_eq_none_iff.mp h _ hi

theorem encode_decodeKey (k : ScanKey) : encode (decodeKey k) = .key k ∧ (decodeKey k).wellFormed = true := by
  rcases decodeKey_cases k with hmem | ⟨hk, hnone⟩
  · exact (keyMap_row _ hmem).2
  · rw [hnone]
    exact ⟨rfl, by simp [Instr.wellFormed, hk]⟩

theorem decodeKey_eq_scNone_iff (k : ScanKey) : decodeKey k = .scNone k ↔ k.isKeyed = false := by
  constructor
  · intro h
    simpa [h, Instr.wellFormed] using (encode_decodeKey k).2
  · intro hk
    rcases decodeKey_cases k with hmem | ⟨-, hnone⟩
    · simp [(keyMap_row _ hmem).1] at hk
    · exact hnone

/-! ### Operands in a word -/

section
variable {n : Nat}

/-- The word that holds the operand `v` from bit `a` up, and 0 elsewhere. -/
def operandAt (a : Nat) (v : BitVec n) : Word := v.setWidth 32 <<< a

/-- The bits of an operand of width `n` from bit `a` up. -/
def operandMask (a n : Nat) : Word := operandAt a (BitVec.allOnes n)

@[simp] theorem extract_operandAt {a : Nat} (v : BitVec n) (h : a + n ≤ 32) : (operandAt a v).extractLsb' a n = v := by
  refine BitVec.eq_of_getLsbD_eq fun j hj => ?_
  grind [operandAt]

@[simp] theorem extract_operandAt_of_disjoint {a b m : Nat} (v : BitVec n) (h : b + m ≤ a ∨ a + n ≤ b) :
    (operandAt a v).extractLsb' b m = 0#m := by
  refine BitVec.eq_of_getLsbD_eq fun j hj => ?_
  grind [operandAt]

/-- The bits of a field, put back where they were read. -/
theorem setWidth_extract_shiftLeft (a n : Nat) (w : Word) :
    (w.extractLsb' a n).setWidth 32 <<< a = w &&& operandMask a n := by
  refine BitVec.eq_of_getLsbD_eq fun j hj => ?_
  grind [operandAt, operandMask]

theorem setWidth_extract (n : Nat) (w : Word) : (w.extractLsb' 0 n).setWidth 32 = w &&& operandMask 0 n := by
  rw [← setWidth_extract_shiftLeft, BitVec.shiftLeft_zero]

end

theorem extract_and_of_allOnes {a n : Nat} {m : Word} (w : Word) (h : m.extractLsb' a n = BitVec.allOnes n) :
    (w &&& m).extractLsb' a n = w.extractLsb' a n := by
  rw [BitVec.extractLsb'_and, h, BitVec.and_allOnes]

theorem and_eq_zero_iff_bits (w m : Word) :
    w &&& m = 0 ↔ ∀ j < 32, w.getLsbD j = true → m.getLsbD j = false := by
  simp [BitVec.eq_of_getLsbD_eq_iff]

/-! ### The rows of the command words (30_encoding.md R82, R83) -/

/-- Bits 31:28 of a command word. -/
def opOf (w : Word) : Nat := (w.extractLsb' 28 4).toNat

/-- The bits of a command word that the row `op` holds at zero. -/
def zeroBits : Nat → Word
  | 0x0 => 0x0FE00000
  | 0x2 => 0x0F000000
  | 0x4 | 0xD => 0x0FFFFF00
  | 0x5 => 0x0FFFE0C0
  | 0xE | 0xF => 0
  | _ => 0x0FFFFFFF

/-- The instruction of the row `op`, its operands read from `w`. -/
def commandOf (op : Nat) (w : Word) : Instr :=
  match op with
  | 0x0 => .putchar (w.extractLsb' 0 21)
  | 0x1 => .newline
  | 0x2 => .writeAt (w.extractLsb' 8 8) (w.extractLsb' 16 8) (w.extractLsb' 0 8)
  | 0x3 => .clear
  | 0x4 => .setColor (w.extractLsb' 0 8)
  | 0x5 => .setShape (w.extractLsb' 0 6) (w.extractLsb' 8 5)
  | 0x6 => .updateCursor
  | 0x7 => .getChar
  | 0x8 => .getLine
  | 0x9 => .lock
  | 0xA => .unlock
  | 0xB => .forceLock
  | 0xC => .leReset
  | 0xD => .advance (w.extractLsb' 0 8)
  | 0xE => .cmdReservedE (w.extractLsb' 0 28)
  | _ => .cmdReservedF (w.extractLsb' 0 28)

theorem opOf_lt (w : Word) : opOf w < 16 := (w.extractLsb' 28 4).isLt

theorem withZeroBits_eq_ok_iff (mask w : Word) (i j : Instr) :
    withZeroBits mask w i = .ok j ↔ j = i ∧ w &&& mask = 0 := by
  unfold withZeroBits
  split <;> simp_all [eq_comm]

theorem decodePutchar_eq_ok_iff (w : Word) (i : Instr) :
    decodePutchar w = .ok i ↔
      i = .putchar (w.extractLsb' 0 21) ∧ w &&& 0x0FE00000 = 0 ∧ Character.isScalar (w.extractLsb' 0 21) := by
  unfold decodePutchar
  split
  next h => rw [withZeroBits_eq_ok_iff, and_iff_left h]
  next h => split <;> simp [h]

/-- What the decoder answers for a command word, and when it answers. -/
theorem decode_word_eq_ok_iff (w : Word) (i : Instr) :
    decode (.word w) = .ok i ↔ i = commandOf (opOf w) w ∧ w &&& zeroBits (opOf w) = 0 ∧
      (opOf w = 0 → Character.isScalar (w.extractLsb' 0 21)) := by
  have hop := opOf_lt w
  change decodeCommand w = .ok i ↔ _
  unfold decodeCommand
  unfold opOf at *
  generalize (w.extractLsb' 28 4).toNat = op at *
  obtain rfl | hrow | rfl | rfl : op = 0 ∨ (1 ≤ op ∧ op ≤ 13) ∨ op = 14 ∨ op = 15 := by omega
  · simp [decodePutchar_eq_ok_iff, commandOf, zeroBits]
  · obtain ⟨hlow, hhigh⟩ := hrow
    interval_cases op <;> simp [withZeroBits_eq_ok_iff, commandOf, zeroBits]
  · simp [commandOf, zeroBits, eq_comm]
  · simp [commandOf, zeroBits, eq_comm]

theorem commandOf_wellFormed_iff (op : Nat) (w : Word) :
    (commandOf op w).wellFormed = true ↔ (op = 0 → Character.isScalar (w.extractLsb' 0 21)) := by
  unfold commandOf
  split
  case h_1 => simp only [Instr.wellFormed, decide_eq_true_eq, forall_const]
  all_goals simp_all [Instr.wellFormed]

theorem commandOf_isReserved_iff {op : Nat} (hop : op < 16) (w : Word) :
    Claims.isReserved (commandOf op w) = false ↔ op ≤ 13 := by
  interval_cases op <;> simp [commandOf, Claims.isReserved]

/-! ### The word of a row with the operands of another word -/

/-- The bits of the operands of the row `op`. -/
def fieldsMask (op : Nat) : Word := ~~~(operandMask 28 4 ||| zeroBits op)

/-- The word of the row `op` whose operands are those of `w`: the op in bits 31:28, every bit outside the fields 0. -/
def wordOf (op : Nat) (w : Word) : Word := operandAt 28 (BitVec.ofNat 4 op) ||| (w &&& fieldsMask op)

theorem fieldsMask_and_zeroBits (op : Nat) : fieldsMask op &&& zeroBits op = 0 := by
  simp [fieldsMask, BitVec.not_or, BitVec.and_assoc]

theorem extract_op_fieldsMask : ∀ op < 16, (fieldsMask op).extractLsb' 28 4 = 0#4 := by decide

theorem operandAt_op_and_zeroBits : ∀ op < 16, operandAt 28 (BitVec.ofNat 4 op) &&& zeroBits op = 0 := by decide

theorem opOf_wordOf {op : Nat} (hop : op < 16) (w : Word) : opOf (wordOf op w) = op := by
  simp [opOf, wordOf, BitVec.extractLsb'_or, BitVec.extractLsb'_and, -BitVec.toNat_or, extract_op_fieldsMask op hop,
    Nat.mod_eq_of_lt hop]

theorem wordOf_and_zeroBits {op : Nat} (hop : op < 16) (w : Word) : wordOf op w &&& zeroBits op = 0 := by
  rw [wordOf, BitVec.and_or_distrib_right, BitVec.and_assoc, fieldsMask_and_zeroBits, operandAt_op_and_zeroBits op hop]
  simp

/-- A word whose row's zero bits are 0 is its op and its operands. -/
theorem wordOf_opOf {w : Word} (hz : w &&& zeroBits (opOf w) = 0) : wordOf (opOf w) w = w := by
  have hop : operandAt 28 (BitVec.ofNat 4 (opOf w)) = w &&& operandMask 28 4 := by
    rw [opOf, BitVec.ofNat_toNat, BitVec.setWidth_eq]
    exact setWidth_extract_shiftLeft 28 4 w
  calc wordOf (opOf w) w
      = w &&& (operandMask 28 4 ||| zeroBits (opOf w) ||| fieldsMask (opOf w)) := by
        simp [wordOf, BitVec.and_or_distrib_left, hz, hop]
    _ = w := by rw [fieldsMask, BitVec.or_not_self, BitVec.and_allOnes]

theorem commandOf_wordOf {op : Nat} (hop : op < 16) (w : Word) : commandOf op (wordOf op w) = commandOf op w := by
  interval_cases op
  all_goals simp (disch := decide) [commandOf, wordOf, BitVec.extractLsb'_or, extract_and_of_allOnes]

theorem encode_commandOf {op : Nat} (hop : op < 16) (w : Word) : encode (commandOf op w) = .word (wordOf op w) := by
  obtain rfl | hfields | hbare : op = 0 ∨ (op = 2 ∨ op = 4 ∨ op = 5 ∨ op = 13 ∨ op = 14 ∨ op = 15) ∨
    (op = 1 ∨ op = 3 ∨ op = 6 ∨ op = 7 ∨ op = 8 ∨ op = 9 ∨ op = 10 ∨ op = 11 ∨ op = 12) := by omega
  · rw [commandOf, encode, setWidth_extract]
    exact congrArg Code.word BitVec.zero_or.symm
  · rcases hfields with rfl | rfl | rfl | rfl | rfl | rfl
    all_goals
      simp only [commandOf, encode, setWidth_extract, setWidth_extract_shiftLeft, BitVec.or_assoc,
        ← BitVec.and_or_distrib_left]
      rfl
  · rcases hbare with rfl | rfl | rfl | rfl | rfl | rfl | rfl | rfl | rfl
    all_goals exact congrArg Code.word (by rw [wordOf, show fieldsMask _ = 0#32 from rfl, BitVec.and_zero]; rfl)

/-! ### Decoding the encoding -/

theorem canonicalEncoding (i : Instr) : Laws.CanonicalEncoding.Statement i := by
  cases i <;> exact ⟨rfl, rfl⟩

theorem decode_encode_commandOf {op : Nat} (hop : op < 16) (w : Word) (h : (commandOf op w).wellFormed = true) :
    decode (encode (commandOf op w)) = .ok (commandOf op w) := by
  have hc := commandOf_wordOf hop w
  rw [encode_commandOf hop, decode_word_eq_ok_iff, opOf_wordOf hop, hc]
  exact ⟨rfl, wordOf_and_zeroBits hop w, (commandOf_wellFormed_iff op _).mp (by rwa [hc])⟩

/-- Every command, under its decoder's name, is a row with some word's operands. -/
theorem exists_commandOf {i : Instr} (h : isScan i = false) : ∃ op < 16, ∃ w, commandOf op w = i.canonical := by
  cases i
  case putchar c => exact ⟨0x0, by decide, operandAt 0 c, by simp [commandOf, Instr.canonical]⟩
  case newline => exact ⟨0x1, by decide, 0, rfl⟩
  case writeAt x y g | writeByte x y g =>
    exact ⟨0x2, by decide, operandAt 16 y ||| operandAt 8 x ||| operandAt 0 g,
      by simp [commandOf, Instr.canonical, BitVec.extractLsb'_or]⟩
  case clear => exact ⟨0x3, by decide, 0, rfl⟩
  case setColor a => exact ⟨0x4, by decide, operandAt 0 a, by simp [commandOf, Instr.canonical]⟩
  case setShape a b =>
    exact ⟨0x5, by decide, operandAt 8 b ||| operandAt 0 a, by simp [commandOf, Instr.canonical, BitVec.extractLsb'_or]⟩
  case updateCursor => exact ⟨0x6, by decide, 0, rfl⟩
  case getChar => exact ⟨0x7, by decide, 0, rfl⟩
  case getLine => exact ⟨0x8, by decide, 0, rfl⟩
  case lock => exact ⟨0x9, by decide, 0, rfl⟩
  case unlock => exact ⟨0xA, by decide, 0, rfl⟩
  case forceLock => exact ⟨0xB, by decide, 0, rfl⟩
  case leReset => exact ⟨0xC, by decide, 0, rfl⟩
  case advance b => exact ⟨0xD, by decide, operandAt 0 b, by simp [commandOf, Instr.canonical]⟩
  case cmdReservedE r => exact ⟨0xE, by decide, operandAt 0 r, by simp [commandOf, Instr.canonical]⟩
  case cmdReservedF r => exact ⟨0xF, by decide, operandAt 0 r, by simp [commandOf, Instr.canonical]⟩
  all_goals cases h

theorem decode_encode_scan {i : Instr} (h : isScan i = true) (hw : i.wellFormed = true) :
    decode (encode i) = .ok i.canonical := by
  cases i
  case scNone k => exact congrArg Except.ok ((decodeKey_eq_scNone_iff k).mpr (by simpa [Instr.wellFormed] using hw))
  case putchar | newline | writeAt | writeByte | clear | setColor | setShape | updateCursor | getChar | getLine | lock |
    unlock | forceLock | leReset | advance | cmdReservedE | cmdReservedF => cases h
  all_goals rfl

/-- Settles O5: a row of the dispatch map by its key; a command as its row with the operands of a word, which are all
that the row's word keeps of that word. -/
theorem decodeEncodeRoundTrip : Obligations.DecodeEncodeRoundTrip := by
  unfold Obligations.DecodeEncodeRoundTrip
  intro i hi
  cases hs : isScan i with
  | true => exact decode_encode_scan hs hi
  | false =>
    obtain ⟨henc, hwf⟩ := canonicalEncoding i
    obtain ⟨op, hop, w, hw⟩ := exists_commandOf hs
    rw [← henc, ← hw]
    exact decode_encode_commandOf hop w (by rw [hw, hwf, hi])

/-! ### The words that spell a command -/

theorem zeroBits_bit : ∀ op ≤ 13, ∀ j < 32,
    (zeroBits op).getLsbD j = (decide (j < 28) && !Claims.fieldBit op j) := by decide

theorem and_zeroBits_eq_zero_iff {op : Nat} (hop : op ≤ 13) (w : Word) :
    w &&& zeroBits op = 0 ↔ ∀ j < 28, w.getLsbD j = true → Claims.fieldBit op j = true := by
  rw [and_eq_zero_iff_bits]
  refine ⟨fun h j hj hw => ?_, fun h j hj hw => ?_⟩
  · simpa [zeroBits_bit op hop j (by omega), hj] using h j (by omega) hw
  · rw [zeroBits_bit op hop j hj]
    by_cases hj' : j < 28
    · simp [h j hj' hw]
    · simp [hj']

theorem spellsCommand_iff (w : Word) :
    Claims.spellsCommand w ↔ ∃ i, decode (.word w) = .ok i ∧ i.wellFormed = true ∧ Claims.isReserved i = false := by
  change (opOf w ≤ 13 ∧ (∀ j < 28, w.getLsbD j = true → Claims.fieldBit (opOf w) j = true) ∧
    (opOf w = 0 → Character.isScalar (w.extractLsb' 0 21))) ↔ _
  simp only [decode_word_eq_ok_iff]
  constructor
  · rintro ⟨hop, hbits, hs⟩
    exact ⟨_, ⟨rfl, (and_zeroBits_eq_zero_iff hop w).mpr hbits, hs⟩, (commandOf_wellFormed_iff _ w).mpr hs,
      (commandOf_isReserved_iff (opOf_lt w) w).mpr hop⟩
  · rintro ⟨_, ⟨rfl, hz, hs⟩, -, hr⟩
    have hop := (commandOf_isReserved_iff (opOf_lt w) w).mp hr
    exact ⟨hop, (and_zeroBits_eq_zero_iff hop w).mp hz, hs⟩

theorem exec_reserved {i : Instr} (h : Claims.isReserved i = true) (s : State) : ∃ r, exec i s = .refused r := by
  cases i
  case cmdReservedE => exact ⟨.reservedCommandE, rfl⟩
  case cmdReservedF => exact ⟨.reservedCommandF, rfl⟩
  all_goals cases h

/-! ### The statements -/

/-- Settles O6: a key's row carries that key; a word that decodes has no bit set outside its fields, so it is the word of
its row with its own operands. -/
theorem encodeDecodeRoundTrip : Obligations.EncodeDecodeRoundTrip := by
  unfold Obligations.EncodeDecodeRoundTrip
  refine ⟨fun c i h => ?_, fun k => ⟨decodeKey k, rfl⟩⟩
  cases c with
  | key k =>
    cases h
    exact encode_decodeKey k
  | word w =>
    obtain ⟨rfl, hz, hs⟩ := (decode_word_eq_ok_iff w i).mp h
    rw [encode_commandOf (opOf_lt w), wordOf_opOf hz]
    exact ⟨rfl, (commandOf_wellFormed_iff _ w).mpr hs⟩

/-- Settles O4: a word that spells no command is rejected by the decoder, or it is of a reserved row. -/
theorem unspelledWordIsRefused : Obligations.UnspelledWordIsRefused := by
  unfold Obligations.UnspelledWordIsRefused
  refine ⟨fun w => (spellsCommand_iff w).symm, fun s w rest ha hh hw => ?_⟩
  cases hd : decode (codeOf s.dstate (.command w)) with
  | error e => exact ⟨_, step_unspelled ha hh hd⟩
  | ok i =>
    rw [step_operation ha hh hd]
    have hwf : i.wellFormed = true := (encodeDecodeRoundTrip.1 _ i hd).2
    refine exec_reserved (eq_true_of_ne_false fun hr => hw ?_) _
    exact (spellsCommand_iff w).mpr ⟨i, hd, hwf, hr⟩

/-- Settles O7: the rows by counting them; the keys of the default are the keys that have no row. -/
theorem dispatchMapCounts : Obligations.DispatchMapCounts := by
  unfold Obligations.DispatchMapCounts
  refine ⟨rfl, .of_map BitVec.toNat (by decide +kernel), rfl, rfl, ?_⟩
  have hnone : ∀ n, (decodeKey (BitVec.ofNat 9 n) == .scNone (BitVec.ofNat 9 n)) = !ScanKey.isKeyed (BitVec.ofNat 9 n) :=
    fun n => Bool.eq_iff_iff.mpr (by simp [decodeKey_eq_scNone_iff])
  simp only [hnone]
  decide +kernel

/-- Settles O8: each word is the encoding of its instruction. -/
theorem writtenOutWordsDecode : Obligations.WrittenOutWordsDecode := by
  unfold Obligations.WrittenOutWordsDecode
  exact ⟨decodeEncodeRoundTrip .scPrefix rfl, decodeEncodeRoundTrip .scRctrlBk rfl, decodeEncodeRoundTrip .scCapsMk rfl,
    decodeEncodeRoundTrip .scKI rfl, decodeEncodeRoundTrip .scKp7 rfl, decodeEncodeRoundTrip .scXenter rfl,
    decodeEncodeRoundTrip (.scNone 0x097) rfl, decodeEncodeRoundTrip (.putchar 0x4F) rfl,
    decodeEncodeRoundTrip (.writeAt 5 1 0x5A) rfl, decodeEncodeRoundTrip (.setShape 14 15) rfl,
    decodeEncodeRoundTrip .getLine rfl, decodeEncodeRoundTrip .forceLock rfl, decodeEncodeRoundTrip (.advance 0x2A) rfl⟩

/-- Settles O53: the words are the encodings of the reserved rows, which `exec` refuses without reading the state. -/
theorem reservedOpsStop : Obligations.ReservedOpsStop := by
  unfold Obligations.ReservedOpsStop
  exact fun r _ => ⟨decodeEncodeRoundTrip (.cmdReservedE r) rfl, rfl, decodeEncodeRoundTrip (.cmdReservedF r) rfl, rfl⟩

end Sys2Proof.Machine
end

section
/-! The decoder core: the writes to the modifier flags, a row of the dispatch map run from a live state, and ADVANCE as the
row of the present key (40_decoder_core_modifiers.md R100 to R129). -/

namespace Sys2Proof.Machine

/-! ### The held flags -/

section
variable (m : Mods) (f : HeldFlag) (v : Bool)

theorem Mods.held_setHeld (g : HeldFlag) : (m.setHeld f v).held g = if g = f then v else m.held g := by
  cases f <;> cases g <;> rfl

@[simp] theorem Mods.lockValue_setHeld (k : LockKey) : (m.setHeld f v).lockValue k = m.lockValue k := by
  cases f <;> rfl

@[simp] theorem Mods.lockPressed_setHeld (k : LockKey) : (m.setHeld f v).lockPressed k = m.lockPressed k := by
  cases f <;> rfl

@[simp] theorem Mods.setHeld_setHeld (w : Bool) : (m.setHeld f v).setHeld f w = m.setHeld f w := by
  cases f <;> rfl

theorem Mods.setHeld_held : m.setHeld f (m.held f) = m := by
  cases f <;> rfl

end

/-- A write to a held flag, in either mode, by a make or by a break, is that flag given some value. -/
theorem modMake_eq_setHeld (mode : Config.ModWriteMode) (f : HeldFlag) (m : Mods) :
    ∃ v, modMake mode f m = m.setHeld f v := by
  cases mode <;> exact ⟨_, rfl⟩

theorem modBreak_eq_setHeld (mode : Config.ModWriteMode) (f : HeldFlag) (m : Mods) :
    ∃ v, modBreak mode f m = m.setHeld f v := by
  cases mode <;> exact ⟨_, rfl⟩

/-- From a clear flag a make and its break, in either mode, give the flags back (40_decoder_core_modifiers.md R104). -/
theorem modBreak_modMake (mode : Config.ModWriteMode) {f : HeldFlag} {m : Mods} (h : m.held f = false) :
    modBreak mode f (modMake mode f m) = m := by
  have hm : m.setHeld f false = m := by rw [← h, m.setHeld_held f]
  cases mode with
  | setClear => simp [modBreak, modMake, hm]
  | flip => simp [modBreak, modMake, Mods.held_setHeld, h, hm]

/-- Settles O11: the write by its value; a make and break pair is the identity on a clear flag in both modes, and so is any
number of pairs. -/
theorem modifierWriteModes : Obligations.ModifierWriteModes := by
  unfold Obligations.ModifierWriteModes
  refine ⟨fun f g m => ?_, fun mode f k m => ?_, fun f n m h => ?_⟩
  · refine ⟨m.held_setHeld f true g, m.held_setHeld f false g, ?_⟩
    have hflip : (m.setHeld f (!m.held f)).held g = if g = f then !m.held g else m.held g := by
      rw [Mods.held_setHeld]
      by_cases hg : g = f <;> simp [hg]
    exact ⟨hflip, hflip⟩
  · obtain ⟨v, hmake⟩ := modMake_eq_setHeld mode f m
    obtain ⟨w, hbreak⟩ := modBreak_eq_setHeld mode f m
    simp [hmake, hbreak]
  · rw [Function.iterate_fixed (modBreak_modMake .setClear h), Function.iterate_fixed (modBreak_modMake .flip h)]

/-! ### The lock keys -/

section
variable (m : Mods) (k : LockKey) (v p : Bool)

@[simp] theorem Mods.lockValue_setLock : (m.setLock k v p).lockValue k = v := by
  cases k <;> rfl

@[simp] theorem Mods.lockPressed_setLock : (m.setLock k v p).lockPressed k = p := by
  cases k <;> rfl

@[simp] theorem Mods.setLock_setLock (w q : Bool) : (m.setLock k v p).setLock k w q = m.setLock k w q := by
  cases k <;> rfl

theorem Mods.setLock_lock : m.setLock k (m.lockValue k) (m.lockPressed k) = m := by
  cases k <;> rfl

end

/-- The first make of a lock key toggles its value (40_decoder_core_modifiers.md R121). -/
theorem lockMake_of_released {k : LockKey} {m : Mods} (h : m.lockPressed k = false) :
    lockMake k m = m.setLock k (!m.lockValue k) true := by
  simp [lockMake, h]

/-- A repeated make changes nothing (70_reset_and_hazards.md R320). -/
theorem lockMake_of_pressed {k : LockKey} {m : Mods} (h : m.lockPressed k = true) : lockMake k m = m := by
  have hm := m.setLock_lock k
  simpa [lockMake, h] using hm

/-- Settles O13: the first make toggles and is tracked; every further one finds the key pressed. -/
theorem heldLockKeyTogglesOnce : Obligations.HeldLockKeyTogglesOnce := by
  unfold Obligations.HeldLockKeyTogglesOnce
  intro k n m h
  have hpressed : (lockMake k m).lockPressed k = true := m.lockPressed_setLock k _ true
  calc lockBreak k ((lockMake k)^[n + 1] m)
      = lockBreak k (lockMake k m) := by
        rw [Function.iterate_succ_apply, Function.iterate_fixed (lockMake_of_pressed hpressed)]
    _ = m.setLock k (!m.lockValue k) false := by
        simp [lockMake_of_released h, lockBreak]

/-! ### A row of the dispatch map, run from a live state -/

theorem runScanRow_live (r : Row) {s : State} (h : s.live) :
    runScanRow r s = .next { s with
      dstate := nextState r.state r.byte
      mods := (runEntry r.entry s.mods).2
      result := .character (runEntry r.entry s.mods).1 } :=
  (runScanRow_eq_next_iff r s _).mpr ⟨h, rfl⟩

/-- Every row but the prefix's leaves the decoder in Neutral. -/
theorem runScanRow_scanned (r : Row) (hr : nextState r.state r.byte = .neutral) {s : State} (h : s.live) :
    runScanRow r s = .next (Claims.scanned s (runEntry r.entry s.mods).2 (runEntry r.entry s.mods).1) := by
  rw [runScanRow_live r h, hr, Claims.scanned]

/-- Settles O9: each entry's row, with its key. -/
theorem modifierMakesSetTheirFlag : Obligations.ModifierMakesSetTheirFlag := by
  unfold Obligations.ModifierMakesSetTheirFlag
  exact ⟨⟨decodeEncodeRoundTrip .scLctrlMk rfl, fun _ => runScanRow_scanned rowScLctrlMk rfl⟩,
    ⟨decodeEncodeRoundTrip .scRctrlMk rfl, fun _ => runScanRow_scanned rowScRctrlMk rfl⟩,
    ⟨decodeEncodeRoundTrip .scLshiftMk rfl, fun _ => runScanRow_scanned rowScLshiftMk rfl⟩,
    ⟨decodeEncodeRoundTrip .scRshiftMk rfl, fun _ => runScanRow_scanned rowScRshiftMk rfl⟩,
    ⟨decodeEncodeRoundTrip .scLaltMk rfl, fun _ => runScanRow_scanned rowScLaltMk rfl⟩,
    ⟨decodeEncodeRoundTrip .scRaltMk rfl, fun _ => runScanRow_scanned rowScRaltMk rfl⟩,
    ⟨decodeEncodeRoundTrip .scLsuperMk rfl, fun _ => runScanRow_scanned rowScLsuperMk rfl⟩,
    ⟨decodeEncodeRoundTrip .scRsuperMk rfl, fun _ => runScanRow_scanned rowScRsuperMk rfl⟩⟩

/-- Settles O10: each entry's row, with its key. -/
theorem modifierBreaksClearTheirFlag : Obligations.ModifierBreaksClearTheirFlag := by
  unfold Obligations.ModifierBreaksClearTheirFlag
  exact ⟨⟨decodeEncodeRoundTrip .scLctrlBk rfl, fun _ => runScanRow_scanned rowScLctrlBk rfl⟩,
    ⟨decodeEncodeRoundTrip .scRctrlBk rfl, fun _ => runScanRow_scanned rowScRctrlBk rfl⟩,
    ⟨decodeEncodeRoundTrip .scLshiftBk rfl, fun _ => runScanRow_scanned rowScLshiftBk rfl⟩,
    ⟨decodeEncodeRoundTrip .scRshiftBk rfl, fun _ => runScanRow_scanned rowScRshiftBk rfl⟩,
    ⟨decodeEncodeRoundTrip .scLaltBk rfl, fun _ => runScanRow_scanned rowScLaltBk rfl⟩,
    ⟨decodeEncodeRoundTrip .scRaltBk rfl, fun _ => runScanRow_scanned rowScRaltBk rfl⟩,
    ⟨decodeEncodeRoundTrip .scLsuperBk rfl, fun _ => runScanRow_scanned rowScLsuperBk rfl⟩,
    ⟨decodeEncodeRoundTrip .scRsuperBk rfl, fun _ => runScanRow_scanned rowScRsuperBk rfl⟩⟩

/-- Settles O12: each entry's row, with its key; a make's value and pressed-edge bits are those of `lockMake`. -/
theorem lockKeysToggleOnEdges : Obligations.LockKeysToggleOnEdges := by
  unfold Obligations.LockKeysToggleOnEdges
  exact ⟨⟨decodeEncodeRoundTrip .scCapsMk rfl, fun _ => runScanRow_scanned rowScCapsMk rfl⟩,
    ⟨decodeEncodeRoundTrip .scCapsBk rfl, fun _ => runScanRow_scanned rowScCapsBk rfl⟩,
    ⟨decodeEncodeRoundTrip .scNumMk rfl, fun _ => runScanRow_scanned rowScNumMk rfl⟩,
    ⟨decodeEncodeRoundTrip .scNumBk rfl, fun _ => runScanRow_scanned rowScNumBk rfl⟩,
    ⟨decodeEncodeRoundTrip .scScrollMk rfl, fun _ => runScanRow_scanned rowScScrollMk rfl⟩,
    ⟨decodeEncodeRoundTrip .scScrollBk rfl, fun _ => runScanRow_scanned rowScScrollBk rfl⟩⟩

/-- Settles O17: the prefix's row, the one row that does not lead to Neutral. -/
theorem prefixByteOpensExtendedState : Obligations.PrefixByteOpensExtendedState := by
  unfold Obligations.PrefixByteOpensExtendedState
  exact ⟨decodeEncodeRoundTrip .scPrefix rfl, decodeEncodeRoundTrip (.scNone 0x1E0) rfl,
    fun _ => runScanRow_live rowScPrefix⟩

/-! ### The keys without a row of their own -/

@[simp] theorem keyOf_stateOfKey_byteOfKey (k : ScanKey) : keyOf (stateOfKey k) (byteOfKey k) = k := by
  revert k
  decide +kernel

/-- The prefix's key is the one key whose transition does not lead to Neutral (40_decoder_core_modifiers.md R101). -/
theorem nextState_of_ne_prefix {k : ScanKey} (h : k ≠ 0x0E0) : nextState (stateOfKey k) (byteOfKey k) = .neutral := by
  refine if_neg fun ⟨hst, hb⟩ => h ?_
  rw [← keyOf_stateOfKey_byteOfKey k, hst, hb]
  rfl

/-- Settles O18: a key without a row is not the prefix's, so its transition leads to Neutral. -/
theorem unmatchedKeysYieldNothing : Obligations.UnmatchedKeysYieldNothing := by
  unfold Obligations.UnmatchedKeysYieldNothing
  intro k hk
  have hkeyed : k.isKeyed = false := by simpa [Instr.wellFormed] using hk
  have hprefix : k ≠ 0x0E0 := by
    rintro rfl
    cases hkeyed
  exact ⟨decodeEncodeRoundTrip (.scNone k) hk, fun s =>
    runScanRow_scanned (rowScNone (stateOfKey k) (byteOfKey k)) (nextState_of_ne_prefix hprefix)⟩

/-! ### ADVANCE runs the row of the present key -/

theorem exec_advance (b : Byte) (s : State) : exec (.advance b) s = runScanRow (dispatchRow s.dstate b) s := by
  unfold runScanRow runCommand
  rfl

theorem isScan_of_encode_key {i : Instr} {k : ScanKey} (h : encode i = .key k) : isScan i = true := by
  cases i
  case putchar | newline | writeAt | writeByte | clear | setColor | setShape | updateCursor | getChar | getLine | lock |
    unlock | forceLock | leReset | advance | cmdReservedE | cmdReservedF => cases h
  all_goals rfl

theorem dispatchMap_isKeyed : ∀ r ∈ dispatchMap, ScanKey.isKeyed (keyOf r.state r.byte) = true := by decide +kernel

/-- A key without a row of its own selects the default (40_decoder_core_modifiers.md R128). -/
theorem dispatchRow_of_not_isKeyed {k : ScanKey} (h : k.isKeyed = false) :
    dispatchRow (stateOfKey k) (byteOfKey k) = rowScNone (stateOfKey k) (byteOfKey k) := by
  obtain ⟨hst, hb⟩ := dispatchRow_state_byte (stateOfKey k) (byteOfKey k)
  rcases dispatchRow_mem (stateOfKey k) (byteOfKey k) with hmem | hnone
  · have hkeyed := dispatchMap_isKeyed _ hmem
    rw [hst, hb, keyOf_stateOfKey_byteOfKey, h] at hkeyed
    cases hkeyed
  · calc dispatchRow (stateOfKey k) (byteOfKey k)
        = ⟨(dispatchRow (stateOfKey k) (byteOfKey k)).state, (dispatchRow (stateOfKey k) (byteOfKey k)).byte,
            (dispatchRow (stateOfKey k) (byteOfKey k)).entry⟩ := rfl
      _ = rowScNone (stateOfKey k) (byteOfKey k) := by rw [hst, hb, hnone, rowScNone]

/-- An instruction of format SC is the run of the row that its key selects in the dispatch map. -/
theorem exec_scan_eq_dispatchRow {i : Instr} {k : ScanKey} (h : encode i = .key k) (hw : i.wellFormed = true) (s : State) :
    exec i s = runScanRow (dispatchRow (stateOfKey k) (byteOfKey k)) s := by
  have hscan := isScan_of_encode_key h
  cases i
  case scNone k' =>
    obtain rfl : k' = k := Code.key.inj h
    rw [dispatchRow_of_not_isKeyed (by simpa [Instr.wellFormed] using hw)]
    rfl
  case putchar | newline | writeAt | writeByte | clear | setColor | setShape | updateCursor | getChar | getLine | lock |
    unlock | forceLock | leReset | advance | cmdReservedE | cmdReservedF => cases hscan
  all_goals
    cases h
    rfl

theorem exec_decodeKey (st : DState) (b : Byte) (s : State) :
    exec (decodeKey (keyOf st b)) s = runScanRow (dispatchRow st b) s := by
  obtain ⟨henc, hwf⟩ := encode_decodeKey (keyOf st b)
  simpa using exec_scan_eq_dispatchRow henc hwf s

/-- Settles O19: both are the run of the row that the key selects. -/
theorem advanceRunsTheSelectedEntry : Obligations.AdvanceRunsTheSelectedEntry := by
  unfold Obligations.AdvanceRunsTheSelectedEntry
  intro s b i h
  obtain rfl : decodeKey (keyOf s.dstate b) = i := Except.ok.inj h
  rw [exec_advance, exec_decodeKey]

/-! ### What ADVANCE answers -/

theorem exec_advance_live (b : Byte) {s : State} (h : s.live) :
    exec (.advance b) s = .next { s with
      dstate := nextState s.dstate b
      mods := (runEntry (dispatchRow s.dstate b).entry s.mods).2
      result := .character (runEntry (dispatchRow s.dstate b).entry s.mods).1 } := by
  obtain ⟨hst, hb⟩ := dispatchRow_state_byte s.dstate b
  rw [exec_advance, runScanRow_live _ h, hst, hb]

/-- Settles O20: the next state of ADVANCE. -/
theorem advanceTransition : Obligations.AdvanceTransition := by
  unfold Obligations.AdvanceTransition
  exact fun s b h => ⟨_, _, exec_advance_live b h⟩

/-- Settles O21: an entry that yields a character leaves the flags as they were. -/
theorem characterLeavesFlags : Obligations.CharacterLeavesFlags := by
  unfold Obligations.CharacterLeavesFlags
  intro s t b c h hc
  rw [exec_advance] at h
  obtain ⟨-, rfl⟩ := (runScanRow_eq_next_iff _ s t).mp h
  exact runEntry_output_keeps_mods _ s.mods c (Result.character.inj hc)

/-- The entries that yield nothing, whatever the flags. -/
def Entry.isSilent : Entry → Bool
  | .printable _ _ | .keypad _ | .functional _ => false
  | _ => true

theorem runEntry_of_isSilent {e : Entry} (h : e.isSilent = true) (m : Mods) : (runEntry e m).1 = none := by
  cases e
  case printable | keypad | functional => cases h
  all_goals rfl

/-- The rows of the bytes with bit 7 set are the prefix, the breaks and no others. -/
theorem dispatchMap_break_isSilent : ∀ r ∈ dispatchMap, 0x80 ≤ r.byte.toNat → r.entry.isSilent = true := by decide

theorem dispatchRow_break_isSilent (st : DState) {b : Byte} (h : 0x80 ≤ b.toNat) :
    (dispatchRow st b).entry.isSilent = true := by
  rcases dispatchRow_mem st b with hmem | hnone
  · exact dispatchMap_break_isSilent _ hmem (by rwa [(dispatchRow_state_byte st b).2])
  · rw [hnone]
    rfl

/-- Settles O22: the entry of a byte with bit 7 set is silent, or the default's. -/
theorem breakBytesYieldNothing : Obligations.BreakBytesYieldNothing := by
  unfold Obligations.BreakBytesYieldNothing
  exact fun s b h hb => ⟨_, exec_advance_live b h,
    congrArg Result.character (runEntry_of_isSilent (dispatchRow_break_isSilent s.dstate hb) s.mods)⟩

/-- An entry reads the flags for its output through `shifted` and `numActive` alone (41_decoder_characters.md R140,
R188). -/
theorem runEntry_output_congr (e : Entry) {m m' : Mods} (hs : m.shifted = m'.shifted) (hn : m.numActive = m'.numActive) :
    (runEntry e m).1 = (runEntry e m').1 := by
  cases e
  case printable u v => simp only [runEntry, printableOutput, hs]
  case keypad d => simp only [runEntry, keypadOutput, hn]
  all_goals rfl

/-- Settles O24: both states run the same entry, and `shifted` is made of a Shift being held and CAPS_LOCK. -/
theorem outputIgnoresOtherFlags : Obligations.OutputIgnoresOtherFlags := by
  unfold Obligations.OutputIgnoresOtherFlags
  intro s s' b hs hs' hst hshift hcaps hnum
  refine ⟨_, _, exec_advance_live b hs, exec_advance_live b hs', ?_⟩
  have hshifted : s.mods.shifted = s'.mods.shifted := congrArg₂ xor hshift hcaps
  rw [← hst]
  exact congrArg Result.character (runEntry_output_congr _ hshifted hnum)

end Sys2Proof.Machine
end

section
/-! The decoder's characters: the printable, the keypad and the functional rows of the dispatch map, and the set they yield
from (41_decoder_characters.md R140 to R209). -/

namespace Sys2Proof.Machine

/-! ### The rows that can yield a character, run by their keys -/

/-- The rows of the dispatch map that can yield a character. -/
def characterRows : List Row := printableRows ++ keypadRows ++ functionalRows

theorem dispatchMap_eq : dispatchMap = controlRows ++ characterRows := by
  simp only [dispatchMap, characterRows, List.append_assoc]

/-- No two rows have the same key, so each row is the one its key selects. -/
theorem dispatchRow_of_mem : ∀ r ∈ dispatchMap, dispatchRow r.state r.byte = r := by decide +kernel

/-- The prefix's row is not one of them (40_decoder_core_modifiers.md R101). -/
theorem characterRows_nextState : ∀ r ∈ characterRows, nextState r.state r.byte = .neutral := by decide

theorem exec_decodeKey_of_mem {r : Row} (hr : r ∈ characterRows) {s : State} (h : s.live) :
    exec (decodeKey (keyOf r.state r.byte)) s =
      .next (Claims.scanned s (runEntry r.entry s.mods).2 (runEntry r.entry s.mods).1) := by
  have hmem : r ∈ dispatchMap := by
    rw [dispatchMap_eq]
    exact List.mem_append_right _ hr
  rw [exec_decodeKey, dispatchRow_of_mem r hmem]
  exact runScanRow_scanned r (characterRows_nextState r hr) h

theorem decode_of_not_isKeyed {k : ScanKey} (h : k.isKeyed = false) : decode (.key k) = .ok (.scNone k) :=
  congrArg Except.ok ((decodeKey_eq_scNone_iff k).mpr h)

/-- The printable and the keypad rows are keyed under Neutral alone and have no break entry (30_encoding.md R79, R80). -/
theorem not_isKeyed_prefixed_or_break : ∀ r ∈ printableRows ++ keypadRows,
    (keyOf .extendedPrefixSeen r.byte).isKeyed = false ∧ (keyOf .neutral (r.byte ||| 0x80)).isKeyed = false := by decide

/-- What the tables of R79 and R80 say of a row: its own key, the two keys beside it, and its run. -/
theorem printable_or_keypad_row {i : Instr} {b : Byte} {e : Entry}
    (hrow : ⟨.neutral, b, e⟩ ∈ printableRows ++ keypadRows) (hi : decodeKey (keyOf .neutral b) = i) :
    decode (.key (keyOf .neutral b)) = .ok i ∧
    decode (.key (keyOf .extendedPrefixSeen b)) = .ok (.scNone (keyOf .extendedPrefixSeen b)) ∧
    decode (.key (keyOf .neutral (b ||| 0x80))) = .ok (.scNone (keyOf .neutral (b ||| 0x80))) ∧
    ∀ s : State, s.live → exec i s = .next (Claims.scanned s (runEntry e s.mods).2 (runEntry e s.mods).1) := by
  obtain ⟨hprefixed, hbreak⟩ := not_isKeyed_prefixed_or_break _ hrow
  refine ⟨congrArg Except.ok hi, decode_of_not_isKeyed hprefixed, decode_of_not_isKeyed hbreak, fun s hs => ?_⟩
  rw [← hi]
  exact exec_decodeKey_of_mem (List.mem_append_left _ hrow) hs

/-! ### The printable entries -/

/-- The spec's table and the model's rows are the same (30_encoding.md R79). -/
theorem printableTable_rows :
    Claims.printableTable.map (fun r => ⟨.neutral, r.2.1, .printable r.2.2.1 r.2.2.2⟩) = printableRows := rfl

theorem printableTable_decodeKey : ∀ r ∈ Claims.printableTable, decodeKey (keyOf .neutral r.2.1) = r.1 := by decide +kernel

theorem printableOutput_eq (u v : Character) (m : Mods) :
    printableOutput u v m = some (if xor (m.lshift || m.rshift) m.capsLock then v else u) :=
  (apply_ite some _ v u).symm

/-- Settles O14: each line of the table is a row of the model, whose output is `printable(u, v)`. -/
theorem printableEntriesShiftByXor : Obligations.PrintableEntriesShiftByXor := by
  unfold Obligations.PrintableEntriesShiftByXor
  intro r hr
  have hrow : ⟨.neutral, r.2.1, .printable r.2.2.1 r.2.2.2⟩ ∈ printableRows := by
    rw [← printableTable_rows]
    exact List.mem_map_of_mem hr
  obtain ⟨hkey, hprefixed, hbreak, hexec⟩ :=
    printable_or_keypad_row (List.mem_append_left _ hrow) (printableTable_decodeKey r hr)
  refine ⟨hkey, hprefixed, hbreak, fun s hs => ?_⟩
  rw [hexec s hs, ← printableOutput_eq]
  rfl

/-! ### The keypad entries -/

/-- The spec's table and the model's rows are the same (30_encoding.md R80). -/
theorem keypadTable_rows : Claims.keypadTable.map (fun r => ⟨.neutral, r.2.1, .keypad r.2.2⟩) = keypadRows := rfl

theorem keypadTable_decodeKey : ∀ r ∈ Claims.keypadTable, decodeKey (keyOf .neutral r.2.1) = r.1 := by decide +kernel

/-- Settles O15: each line of the table is a row of the model, whose output is `keypad(d)`. -/
theorem keypadEntriesGatedByNumLock : Obligations.KeypadEntriesGatedByNumLock := by
  unfold Obligations.KeypadEntriesGatedByNumLock
  intro r hr
  have hrow : ⟨.neutral, r.2.1, .keypad r.2.2⟩ ∈ keypadRows := by
    rw [← keypadTable_rows]
    exact List.mem_map_of_mem hr
  exact printable_or_keypad_row (List.mem_append_right _ hrow) (keypadTable_decodeKey r hr)

/-! ### The functional entries -/

/-- Each line of the spec's table is a row of the model (30_encoding.md R78). -/
theorem functionalTable_rows :
    ∀ r ∈ Claims.functionalTable, ⟨stateOfKey r.2.1, byteOfKey r.2.1, .functional r.2.2⟩ ∈ functionalRows := by decide

theorem functionalTable_decodeKey : ∀ r ∈ Claims.functionalTable, decodeKey r.2.1 = r.1 := by decide +kernel

theorem functionalTable_break_not_isKeyed : ∀ r ∈ Claims.functionalTable,
    (r.2.1 ||| 0x080).isKeyed = false ∧ (r.2.1 ||| 0x180).isKeyed = false := by decide

/-- Settles O16: each line of the table is a row of the model, whose output does not read the flags. -/
theorem functionalEntriesYieldTheirCharacter : Obligations.FunctionalEntriesYieldTheirCharacter := by
  unfold Obligations.FunctionalEntriesYieldTheirCharacter
  intro r hr
  obtain ⟨hneutral, hextended⟩ := functionalTable_break_not_isKeyed r hr
  have hi := functionalTable_decodeKey r hr
  refine ⟨congrArg Except.ok hi, decode_of_not_isKeyed hneutral, decode_of_not_isKeyed hextended, fun s hs => ?_⟩
  have hexec := exec_decodeKey_of_mem (List.mem_append_right _ (functionalTable_rows r hr)) hs
  rwa [keyOf_stateOfKey_byteOfKey, hi] at hexec

/-! ### The decoder's character set -/

/-- The characters an entry can yield under some flags. -/
def Entry.outputs : Entry → List Character
  | .printable u v => [u, v]
  | .keypad d => d.toList
  | .functional c => [c]
  | _ => []

theorem mem_outputs_of_runEntry {e : Entry} {m : Mods} {c : Character} (h : (runEntry e m).1 = some c) :
    c ∈ e.outputs := by
  cases e with
  | printable u v =>
    obtain rfl : _ = c := Option.some.inj ((printableOutput_eq u v m).symm.trans h)
    split <;> simp [Entry.outputs]
  | keypad d =>
    obtain ⟨-, hd⟩ : m.numActive = true ∧ d = some c := by simpa [runEntry, keypadOutput] using h
    simp [Entry.outputs, hd]
  | functional d => simpa [Entry.outputs, runEntry, eq_comm] using h
  | _ => cases h

/-- The characters that do not depend on the two keypad parameters (41_decoder_characters.md R209). -/
abbrev FixedCharacter (c : Character) : Prop :=
  (0x20 ≤ c.toNat ∧ c.toNat ≤ 0x7E) ∨ c = 0x0A ∨ c = 0x08 ∨ c = 0x09 ∨ c = 0x1B

/-- Every row but the two whose output is a parameter yields fixed characters alone. -/
theorem dispatchMap_outputs : ∀ r ∈ dispatchMap,
    r = rowScKpMinus ∨ r = rowScKpPlus ∨ r.entry.outputs.all (fun c => decide (FixedCharacter c)) = true := by decide

/-- Settles O23: the character is an output of the row that the byte selects. -/
theorem decoderCharacterSet : Obligations.DecoderCharacterSet := by
  unfold Obligations.DecoderCharacterSet
  intro s t b c h hc
  rw [exec_advance] at h
  obtain ⟨-, rfl⟩ := (runScanRow_eq_next_iff _ s t).mp h
  have hout : c ∈ (dispatchRow s.dstate b).entry.outputs := mem_outputs_of_runEntry (Result.character.inj hc)
  rcases dispatchRow_mem s.dstate b with hmem | hnone
  · rcases dispatchMap_outputs _ hmem with hminus | hplus | hfixed
    · have hkp : Config.kpMinusOut = some c := by simpa [hminus, rowScKpMinus, Entry.outputs] using hout
      simp [hkp]
    · have hkp : Config.kpPlusOut = some c := by simpa [hplus, rowScKpPlus, Entry.outputs] using hout
      simp [hkp]
    · have hc' : FixedCharacter c := of_decide_eq_true (List.all_eq_true.mp hfixed c hout)
      tauto
  · rw [hnone] at hout
    cases hout

end Sys2Proof.Machine
end

section
/-! The commands that write cells or the colour (42_display_write.md): PUTCHAR's four cases through the wrap check to the
hardware cursor, WRITE_AT, CLEAR and SETCOLOR, and what all the display commands leave unchanged. -/

namespace Sys2Proof.Machine

/-! ### What a store of cells leaves in a state -/

section
variable {s t : State} {i : Nat} {vs : List CellWord}

theorem bytesKeptOutside_of_store {n : Nat} (ht : t.cells = storeCells s.cells i vs) (hn : vs.length = n) :
    Claims.bytesKeptOutside s t i n := by
  subst hn
  intro a ha
  rw [ht]
  exact byteAt_storeCells_outside s.cells i vs a ha

theorem cellRead_of_store {j : Nat} (ht : t.cells = storeCells s.cells i vs) (hij : i ≤ j) (hj : j < i + vs.length)
    (hgrid : j < 2000) : cellRead j t = .ok (vs.getD (j - i) 0) := by
  rw [cellRead_inGrid t hgrid, ht, Memory.cellAt_storeCells, if_pos ⟨hij, hj⟩]

theorem cellRead_of_store_one {v : CellWord} (ht : t.cells = storeCells s.cells i [v]) (hi : i < 2000) :
    cellRead i t = .ok v := by
  rw [cellRead_of_store ht le_rfl (by simp) hi]
  simp

theorem cellRead_of_store_elsewhere {j : Nat} (ht : t.cells = storeCells s.cells i vs)
    (hj : j < i ∨ i + vs.length ≤ j) : cellRead j t = cellRead j s := by
  have hcell : t.cells.cellAt j = s.cells.cellAt j := by
    rw [ht, Memory.cellAt_storeCells, if_neg (by omega)]
  rw [cellRead, cellRead, hcell]

end

/-- A state that holds the cells of a scroll is scrolled, cell by cell. -/
theorem scrolledFrom_of_cells {s t : State} (ht : t.cells = (scrolled s).cells) : Claims.scrolledFrom s t := by
  refine ⟨fun i hi => ?_, fun i hlo hhi => ?_, ?_⟩
  · rw [cellRead_inGrid t (by omega), cellRead_inGrid s (by omega), ht, cellAt_scrolled, if_pos hi]
  · rw [cellRead_inGrid t hhi, ht, cellAt_scrolled, if_neg (by omega), if_pos hhi]
    rfl
  · exact bytesKeptOutside_of_store (ht.trans (scrolled_cells s)) (length_scrolledCells s)

/-! ### A command that always goes on -/

theorem runCommand_ok {s : State} (g : State → State) (hs : s.live) :
    runCommand s (fun s => .ok (g s)) = .next (g (s.withResult .unit)) :=
  runCommand_live _ hs

/-! ### PUTCHAR's four cases (42_display_write.md R223 to R227) -/

/-- The state after PUTCHAR's tab case. -/
def afterTab (s : State) : State := { s with cursorX := BitVec.ofNat 7 (nextTabStop s.cursorX.toNat) }

/-- The state after PUTCHAR's glyph case with the cursor in the grid. -/
def afterGlyph (c : Character) (s : State) : State :=
  { s with
    cells := storeCells s.cells (cursorOffset s) [cellOf s.currentColor (resolve c)]
    cursorX := BitVec.ofNat 7 (s.cursorX.toNat + 1) }

theorem putcharCase_lineFeed (s : State) : putcharCase 0x0A s = .ok (afterNewline s) := newlineStep_eq s

theorem putcharCase_carriageReturn (s : State) : putcharCase 0x0D s = .ok { s with cursorX := 0 } := rfl

theorem putcharCase_tab (s : State) : putcharCase 0x09 s = .ok (afterTab s) := rfl

theorem putcharCase_glyph {c : Character} {s : State} (hlf : c ≠ 0x0A) (hcr : c ≠ 0x0D) (htab : c ≠ 0x09)
    (h : cursorOffset s < 2000) : putcharCase c s = .ok (afterGlyph c s) := by
  rw [putcharCase, if_neg hlf, if_neg hcr, if_neg htab, putGlyph, cellWrite_inGrid _ _ h]
  rfl

/-- `resolve` is the glyph of the tables (42_display_write.md R221, R222). -/
theorem resolve_eq_shownGlyph (c : Character) : resolve c = Claims.shownGlyph c := by
  unfold resolve glyphFor Claims.shownGlyph
  split
  · rfl
  split
  · rfl
  · rfl

theorem afterGlyph_cells (c : Character) (s : State) :
    (afterGlyph c s).cells = storeCells s.cells (cursorOffset s) [cellOf s.currentColor (Claims.shownGlyph c)] := by
  rw [afterGlyph, resolve_eq_shownGlyph]

theorem afterGlyph_cursorX_toNat (c : Character) {s : State} (h : s.cursorX.toNat ≤ 79) :
    (afterGlyph c s).cursorX.toNat = s.cursorX.toNat + 1 := by
  rw [afterGlyph, BitVec.toNat_ofNat]
  omega

theorem afterTab_cursorX_toNat {s : State} (h : s.cursorX.toNat ≤ 79) :
    (afterTab s).cursorX.toNat = nextTabStop s.cursorX.toNat := by
  have hstop := nextTabStop_le h
  rw [afterTab, BitVec.toNat_ofNat]
  omega

/-- With the cursor in the grid every case goes on, in a row of the grid and at most one column past its end. -/
theorem putcharCase_inGrid (c : Character) {s : State} (h : s.cursorInGrid) :
    ∃ v, putcharCase c s = .ok v ∧ v.cursorX.toNat ≤ 80 ∧ v.cursorY.toNat ≤ 24 := by
  have hoff := cursorOffset_lt h
  obtain ⟨hx, hy⟩ := h
  by_cases hlf : c = 0x0A
  · subst hlf
    exact ⟨_, putcharCase_lineFeed s, by simp, (afterNewline_cursorInGrid s).2⟩
  by_cases hcr : c = 0x0D
  · subst hcr
    exact ⟨_, putcharCase_carriageReturn s, by simp, hy⟩
  by_cases htab : c = 0x09
  · subst htab
    exact ⟨_, putcharCase_tab s, (afterTab_cursorX_toNat hx).trans_le (nextTabStop_le hx), hy⟩
  · refine ⟨_, putcharCase_glyph hlf hcr htab hoff, ?_, hy⟩
    rw [afterGlyph_cursorX_toNat c hx]
    omega

/-! ### PUTCHAR's wrap check and hardware cursor (42_display_write.md R228, R229) -/

/-- The state after PUTCHAR's wrap check. -/
def afterWrap (s : State) : State := if 80 ≤ s.cursorX.toNat then afterNewline s else s

theorem afterWrap_of_lt {s : State} (h : s.cursorX.toNat < 80) : afterWrap s = s := if_neg (Nat.not_le.2 h)

theorem afterWrap_of_le {s : State} (h : 80 ≤ s.cursorX.toNat) : afterWrap s = afterNewline s := if_pos h

theorem afterWrap_frame (s : State) :
    afterWrap s = { s with
      cells := (afterWrap s).cells, cursorX := (afterWrap s).cursorX, cursorY := (afterWrap s).cursorY } := by
  unfold afterWrap
  split
  · exact afterNewline_frame s
  · rfl

/-- The wrap check leaves the cursor in the grid where its row was in it. -/
theorem afterWrap_cursorInGrid {s : State} (h : s.cursorY.toNat ≤ 24) : (afterWrap s).cursorInGrid := by
  unfold afterWrap
  split
  · exact afterNewline_cursorInGrid s
  · exact ⟨by omega, h⟩

theorem exec_putchar {c : Character} {s v : State} (hs : s.live) (hv : putcharCase c (s.withResult .unit) = .ok v) :
    exec (.putchar c) s = .next (updateCursor (afterWrap v)) :=
  (execPutchar_eq_next_iff c s _).2 ⟨hs, v, hv, rfl⟩

@[simp] theorem cursorOffset_updateCursor (s : State) : cursorOffset (updateCursor s) = cursorOffset s := by
  rw [cursorOffset, updateCursor_cursorX, updateCursor_cursorY, cursorOffset]

theorem cursorShown_updateCursor (s : State) : (updateCursor s).cursorShown := by
  rw [State.cursorShown, cursorOffset_updateCursor, updateCursor_eq]
  exact ⟨rfl, rfl⟩

theorem offsetLowByte_eq_mod (off : Nat) : offsetLowByte off = BitVec.ofNat 8 (off % 256) := by
  apply BitVec.eq_of_toNat_eq
  simp [offsetLowByte]

/-- What PUTCHAR may change, from what its case and the wrap check may change. -/
theorem putcharFrame_updateCursor {s w : State}
    (hw : w = { s.withResult .unit with cells := w.cells, cursorX := w.cursorX, cursorY := w.cursorY }) :
    Claims.putcharFrame s (updateCursor w) := by
  obtain ⟨m, x, y, rfl⟩ : ∃ m x y, w = { s.withResult .unit with cells := m, cursorX := x, cursorY := y } :=
    ⟨_, _, _, hw⟩
  rw [Claims.putcharFrame, updateCursor_eq, offsetLowByte_eq_mod]
  rfl

theorem putcharFrame_of_case {c : Character} {s v : State} (hv : putcharCase c (s.withResult .unit) = .ok v) :
    Claims.putcharFrame s (updateCursor (afterWrap v)) := by
  have hcase := putcharCase_frame c _ v hv
  exact putcharFrame_updateCursor ((afterWrap_frame v).trans (by rw [hcase]))

/-- PUTCHAR from a live state: where its case and the wrap check lead to `w`, the hardware cursor is pushed there. -/
theorem exec_putchar_shows {c : Character} {s v w : State} (hs : s.live)
    (hv : putcharCase c (s.withResult .unit) = .ok v) (hw : afterWrap v = w) :
    exec (.putchar c) s = .next (updateCursor w) ∧ (updateCursor w).cursorShown ∧
      Claims.putcharFrame s (updateCursor w) := by
  subst hw
  exact ⟨exec_putchar hs hv, cursorShown_updateCursor _, putcharFrame_of_case hv⟩

/-! ### PUTCHAR of a glyph -/

/-- Off the last cell, a glyph's one write is all that happens to the cells, and the cursor goes one column on or to the
start of the next row. -/
theorem afterWrap_afterGlyph (c : Character) {s : State} (h : s.cursorInGrid)
    (hlast : ¬ (s.cursorX.toNat = 79 ∧ s.cursorY.toNat = 24)) :
    (afterWrap (afterGlyph c s)).cells = (afterGlyph c s).cells ∧
      ((afterWrap (afterGlyph c s)).cursorX.toNat = if s.cursorX.toNat = 79 then 0 else s.cursorX.toNat + 1) ∧
      ((afterWrap (afterGlyph c s)).cursorY.toNat =
        if s.cursorX.toNat = 79 then s.cursorY.toNat + 1 else s.cursorY.toNat) := by
  obtain ⟨hx, hy⟩ := h
  have hnext := afterGlyph_cursorX_toNat c hx
  by_cases hend : s.cursorX.toNat = 79
  · have habove : (afterGlyph c s).cursorY.toNat < 24 := by
      show s.cursorY.toNat < 24
      omega
    rw [afterWrap_of_le (by omega), afterNewline_cursorX, afterNewline_cursorY_toNat, if_pos habove,
      afterNewline_above habove, if_pos hend, if_pos hend]
    exact ⟨rfl, rfl, rfl⟩
  · rw [afterWrap_of_lt (by omega), if_neg hend, if_neg hend]
    exact ⟨rfl, hnext, rfl⟩

/-- In the last cell, the wrap check after a glyph scrolls. -/
theorem afterWrap_afterGlyph_lastCell (c : Character) {s : State} (hx : s.cursorX.toNat = 79)
    (hy : s.cursorY.toNat = 24) :
    afterWrap (afterGlyph c s) = { scrolled (afterGlyph c s) with cursorX := 0, cursorY := 24 } := by
  have hnext := afterGlyph_cursorX_toNat c hx.le
  rw [afterWrap_of_le (by omega), afterNewline_lastRow (s := afterGlyph c s) (Nat.not_lt.2 hy.ge)]

/-- The last cell written and the grid scrolled: the cell is now one row up, and the rest scrolled as it was. -/
theorem scrolledFrom_of_store_lastCell {s u t : State} {v : CellWord} (hu : u.cells = storeCells s.cells 1999 [v])
    (h : Claims.scrolledFrom u t) :
    cellRead 1919 t = .ok v ∧ (∀ i < 1919, cellRead i t = cellRead (i + 80) s) ∧ Claims.bytesKeptOutside s t 0 2000 := by
  obtain ⟨hup, -, hkept⟩ := h
  refine ⟨?_, fun i hi => ?_, fun a ha => ?_⟩
  · rw [hup 1919 (by decide)]
    exact cellRead_of_store_one hu (by decide)
  · rw [hup i (by omega)]
    exact cellRead_of_store_elsewhere hu (by omega)
  · rw [hkept a ha]
    refine bytesKeptOutside_of_store hu rfl a ?_
    simp only [cellAddr, List.length_singleton] at ha ⊢
    omega

/-- Settles O25: the glyph case writes the one cell, and the wrap check moves the cursor without a scroll. -/
theorem putcharWritesGlyphAndAdvances : Obligations.PutcharWritesGlyphAndAdvances := by
  unfold Obligations.PutcharWritesGlyphAndAdvances
  intro s c hs hgrid hlf hcr htab hlast
  have hoff : cursorOffset s < 2000 := cursorOffset_lt hgrid
  obtain ⟨hcells, hx, hy⟩ := afterWrap_afterGlyph c (s := s.withResult .unit) hgrid hlast
  obtain ⟨hexec, hshown, hframe⟩ := exec_putchar_shows hs (putcharCase_glyph hlf hcr htab hoff) rfl
  rw [afterGlyph_cells, ← updateCursor_cells] at hcells
  rw [← updateCursor_cursorX] at hx
  rw [← updateCursor_cursorY] at hy
  exact ⟨_, hexec, cellRead_of_store_one (s := s) hcells hoff, bytesKeptOutside_of_store (s := s) hcells rfl, hx, hy,
    hshown, hframe⟩

/-- Settles O26: the glyph is written in the last cell, and the wrap check scrolls the grid that holds it. -/
theorem putcharInLastCellScrolls : Obligations.PutcharInLastCellScrolls := by
  unfold Obligations.PutcharInLastCellScrolls
  intro s c hs hx hy hlf hcr htab
  have hoff : cursorOffset (s.withResult .unit) = 1999 := by
    show cellIndex s.cursorX.toNat s.cursorY.toNat = 1999
    rw [hx, hy]
    rfl
  have hglyph := afterGlyph_cells c (s.withResult .unit)
  rw [hoff] at hglyph
  obtain ⟨hexec, hshown, hframe⟩ := exec_putchar_shows hs
    (putcharCase_glyph hlf hcr htab (hoff.trans_lt (by decide))) (afterWrap_afterGlyph_lastCell c hx hy)
  have hscroll := scrolledFrom_of_cells (updateCursor_cells
    { scrolled (afterGlyph c (s.withResult .unit)) with cursorX := 0, cursorY := 24 })
  obtain ⟨hcell, hup, hkept⟩ := scrolledFrom_of_store_lastCell (s := s) hglyph hscroll
  obtain ⟨-, hblank, -⟩ := hscroll
  exact ⟨_, hexec, hcell, hup, hblank, hkept, updateCursor_cursorX _, updateCursor_cursorY _, hshown, hframe⟩

/-! ### PUTCHAR of a line feed, a carriage return, a tab, and of any character -/

theorem exec_newline {s : State} (hs : s.live) : exec .newline s = .next (afterNewline (s.withResult .unit)) := by
  show execNewline s = _
  rw [execNewline, runCommand_live _ hs, newlineStep_eq]
  rfl

theorem exec_updateCursor {s : State} (hs : s.live) :
    exec .updateCursor s = .next (updateCursor (s.withResult .unit)) :=
  runCommand_ok updateCursor hs

/-- UPDATE_CURSOR right after a NEWLINE, which has set the result already. -/
theorem exec_updateCursor_afterNewline {s : State} (hs : s.live) :
    exec .updateCursor (afterNewline (s.withResult .unit)) = .next (updateCursor (afterNewline (s.withResult .unit))) := by
  have hlive : (afterNewline (s.withResult .unit)).live := by rwa [State.live, afterNewline_aborted]
  rw [exec_updateCursor hlive, ← afterNewline_withResult]
  rfl

/-- Settles O27: the line-feed case is the newline step, after which there is nothing to wrap. -/
theorem putcharLineFeedIsNewlineThenUpdate : Obligations.PutcharLineFeedIsNewlineThenUpdate := by
  unfold Obligations.PutcharLineFeedIsNewlineThenUpdate
  intro s hs
  refine ⟨_, exec_newline hs, ?_⟩
  rw [exec_putchar hs (putcharCase_lineFeed _), afterWrap_of_lt (by simp), exec_updateCursor_afterNewline hs]

/-- Settles O28: column 0 needs no wrap. -/
theorem putcharCarriageReturn : Obligations.PutcharCarriageReturn := by
  unfold Obligations.PutcharCarriageReturn
  intro s hs
  obtain ⟨hexec, hshown, hframe⟩ :=
    exec_putchar_shows hs (putcharCase_carriageReturn _) (afterWrap_of_lt (by simp))
  refine ⟨?_, _, hexec, updateCursor_cursorX _, updateCursor_cursorY _, updateCursor_cells _, hshown, hframe⟩
  rw [hexec, exec_updateCursor (s := { s with cursorX := 0 }) hs]
  rfl

/-- The tab stop is the least multiple of 4 above the column (42_display_write.md R226). -/
theorem nextTabStop_spec (x : Nat) : nextTabStop x % 4 = 0 ∧ x < nextTabStop x ∧ nextTabStop x ≤ x + 4 := by
  simp only [nextTabStop, Config.tabStop]
  omega

/-- Settles O29: below column 76 the next stop is in the row; from there on it is column 80, and the wrap check runs. -/
theorem putcharTabStops : Obligations.PutcharTabStops := by
  unfold Obligations.PutcharTabStops
  intro s hs ⟨hx, _⟩
  have hcolumn := afterTab_cursorX_toNat (s := s.withResult .unit) hx
  rw [State.withResult_cursorX] at hcolumn
  obtain ⟨hmod, hlt, hle⟩ := nextTabStop_spec s.cursorX.toNat
  refine ⟨fun hrow => ?_, fun hend => ⟨_, exec_newline hs, ?_⟩⟩
  · obtain ⟨hexec, hshown, hframe⟩ := exec_putchar_shows hs (putcharCase_tab _) (afterWrap_of_lt (by omega))
    refine ⟨_, hexec, ?_, ?_, ?_, updateCursor_cursorY _, updateCursor_cells _, hshown, hframe⟩ <;>
      rwa [updateCursor_cursorX, hcolumn]
  · have hwrap : afterWrap (afterTab (s.withResult .unit)) = afterNewline (s.withResult .unit) := by
      rw [afterWrap_of_le (by omega), afterTab, afterNewline_setCursorX]
    rw [exec_putchar hs (putcharCase_tab _), hwrap, exec_updateCursor_afterNewline hs]

/-- Settles O30: every case goes on from a cursor in the grid, and the wrap check brings the cursor back into it. -/
theorem putcharIsTotal : Obligations.PutcharIsTotal := by
  unfold Obligations.PutcharIsTotal
  intro s c hs hgrid
  obtain ⟨v, hv, -, hrow⟩ := putcharCase_inGrid c (s := s.withResult .unit) hgrid
  obtain ⟨hexec, hshown, hframe⟩ := exec_putchar_shows hs hv rfl
  refine ⟨_, hexec, ?_, ?_, hshown, hframe⟩
  · rw [updateCursor_aborted, afterWrap_frame, putcharCase_frame c _ v hv]
    exact hs
  · rw [State.cursorInGrid, updateCursor_cursorX, updateCursor_cursorY]
    exact afterWrap_cursorInGrid hrow

/-! ### WRITE_AT and its second name (42_display_write.md R230, R231) -/

theorem exec_writeAt_or_writeByte {i : Instr} {x y g : Byte} (hi : i = .writeAt x y g ∨ i = .writeByte x y g) (s : State) :
    exec i s = runCommand s (writeAtRule x y g) := by
  obtain rfl | rfl := hi <;> rfl

theorem writeAtRule_inRange {x y : Byte} (g : Byte) (s : State) (hx : x.toNat < 80) (hy : y.toNat < 25) :
    writeAtRule x y g s =
      .ok { s with cells := storeCells s.cells (y.toNat * 80 + x.toNat) [cellOf s.currentColor g] } := by
  rw [writeAtRule, if_neg (by simp only [Config.width, Config.height]; omega), cellIndex,
    cellWrite_inGrid _ _ (by simp only [Config.width]; omega)]

theorem writeAtRule_outOfRange {x y : Byte} (g : Byte) (s : State) (h : 80 ≤ x.toNat ∨ 25 ≤ y.toNat) :
    writeAtRule x y g s = raiseAbort .cellRange s := if_pos h

/-- Settles O37: in range the rule is one cell write. -/
theorem writeAtInRangeWritesOneCell : Obligations.WriteAtInRangeWritesOneCell := by
  unfold Obligations.WriteAtInRangeWritesOneCell
  intro s x y g i hi hs hx hy
  refine ⟨{ s with
    cells := storeCells s.cells (y.toNat * 80 + x.toNat) [cellOf s.currentColor g], result := .unit }, ?_,
    cellRead_of_store_one (s := s) rfl (by omega), bytesKeptOutside_of_store (s := s) rfl rfl, rfl⟩
  rw [exec_writeAt_or_writeByte hi, runCommand_live _ hs, writeAtRule_inRange g _ hx hy]
  rfl

/-- Settles O38: out of range the rule is abort entry alone. -/
theorem writeAtOutOfRangeAborts : Obligations.WriteAtOutOfRangeAborts := by
  unfold Obligations.WriteAtOutOfRangeAborts
  intro s x y g i hi hs hrange
  rw [exec_writeAt_or_writeByte hi, runCommand_live _ hs, writeAtRule_outOfRange g _ hrange]
  rfl

/-! ### CLEAR and SETCOLOR (42_display_write.md R232, R233) -/

/-- Cells of the grid written one by one in ascending order are one store. The loop writes at least one cell: a store of
no cells still puts the list of bytes in order (log 8). -/
theorem fillLoop_range' (v : CellWord) (s : State) (i n : Nat) (h : i + n < 2000) :
    Claims.fillLoop (List.range' i (n + 1)) v s =
      .ok { s with cells := storeCells s.cells i (List.replicate (n + 1) v) } := by
  induction n with
  | zero =>
    show (cellWrite i v s >>= Except.ok) = _
    rw [cellWrite_inGrid v s (by omega)]
    rfl
  | succ n ih =>
    have hnext : i + (n + 1) = i + (List.replicate (n + 1) v).length := by rw [List.length_replicate]
    rw [Claims.fillLoop, List.range'_1_concat, List.foldlM_append]
    rw [Claims.fillLoop] at ih
    rw [ih (by omega), ok_bind, List.foldlM_cons, cellWrite_inGrid _ _ h, ok_bind, List.foldlM_nil,
      List.replicate_succ' (n := n + 1), ← storeCells_append, ← hnext]
    rfl

theorem exec_clear {s : State} (hs : s.live) :
    exec .clear s = .next { s with
      cells := storeCells s.cells 0 (List.replicate 2000 (blankCell s)), result := .unit } :=
  runCommand_ok (fun s => { s with cells := storeCells s.cells 0 (List.replicate 2000 (blankCell s)) }) hs

/-- Settles O35: the one store of 2000 blanks, which is also where the loop ends. -/
theorem clearFillsTheGrid : Obligations.ClearFillsTheGrid := by
  unfold Obligations.ClearFillsTheGrid
  refine ⟨decodeEncodeRoundTrip .clear rfl, fun s hs => ⟨_, exec_clear hs, fun i hi => ?_, ?_, rfl, ?_⟩⟩
  · rw [cellRead_of_store (s := s) rfl (Nat.zero_le i) (by rw [List.length_replicate]; omega) hi,
      List.getD_eq_getElem?_getD, List.getElem?_replicate, if_pos (by omega)]
    rfl
  · exact bytesKeptOutside_of_store (s := s) rfl List.length_replicate
  · rw [List.range_eq_range']
    exact fillLoop_range' (blankCell s) { s with result := .unit } 0 1999 (by decide)

/-- Settles O36: the word is the encoding of SETCOLOR, and the rule writes the one register. -/
theorem setColorSetsTheColour : Obligations.SetColorSetsTheColour := by
  unfold Obligations.SetColorSetsTheColour
  exact fun a => ⟨decodeEncodeRoundTrip (.setColor a) rfl,
    fun _ hs => runCommand_ok (fun s => { s with currentColor := a }) hs⟩

/-! ### What the display commands leave unchanged (42_display_write.md R220) -/

theorem not_isDisplayCommand_of_isScan {i : Instr} (h : isScan i = true) : Claims.isDisplayCommand i = false := by
  cases i
  case putchar | newline | writeAt | writeByte | clear | setColor | setShape | updateCursor => cases h
  all_goals rfl

/-- The two states differ in registers of the display, the abort record, the result and the trace alone. -/
def State.SameButDisplay (s t : State) : Prop :=
  t = { s with
    cells := t.cells, cursorX := t.cursorX, cursorY := t.cursorY, currentColor := t.currentColor, crtc := t.crtc
    aborted := t.aborted, abortCause := t.abortCause, result := t.result, trace := t.trace }

theorem sameButDisplay_putchar {c : Character} {s v : State} (hv : putcharCase c (s.withResult .unit) = .ok v) :
    s.SameButDisplay (updateCursor (afterWrap v)) := by
  rw [putcharFrame_of_case hv]
  rfl

/-- What a display command can do stays in the display, the abort record, the result and the trace. -/
theorem Effect.sameButDisplay {s t : State} {i : Instr} (hi : Claims.isDisplayCommand i = true) (he : Effect s t i) :
    s.SameButDisplay t := by
  cases he with
  | scan _ _ _ _ hscan _ => rw [not_isDisplayCommand_of_isScan hscan] at hi; cases hi
  | putchar _ _ hv ht => subst ht; exact sameButDisplay_putchar hv
  | newline ht => subst ht; rw [afterNewline_frame]; rfl
  | setShape a b ht => subst ht; rw [setShape_eq]; rfl
  | updateCursor ht => subst ht; rw [updateCursor_eq]; rfl
  | writeOutside _ _ _ _ _ _ ht | writeInside _ _ _ _ _ _ _ ht | clear ht | setColor _ ht => subst ht; rfl
  | advance _ _ _ _ _ | getChar _ | getLine _ | lockHeld _ _ | lockFree _ _ | unlock _ _ | leReset _ => cases hi

/-- Settles O41: a display command answers a next state through one of its effects, which stay in the display. -/
theorem displayCommandsKeepDecoderAndLine : Obligations.DisplayCommandsKeepDecoderAndLine := by
  unfold Obligations.DisplayCommandsKeepDecoderAndLine
  intro i s t hi hst
  obtain ⟨rfl, -⟩ | ⟨-, he⟩ := exec_next_effect i s t hst
  · cases hi
  · rw [he.sameButDisplay hi]
    exact ⟨rfl, rfl, rfl, rfl, rfl, rfl, rfl, rfl, rfl⟩

end Sys2Proof.Machine
end

section
/-! Newline, the scroll over any number of newlines, and the hardware cursor's position and shape
(43_display_cursor_scroll.md). -/

namespace Sys2Proof.Machine

/-! ### The hardware cursor (43_display_cursor_scroll.md R244, R245) -/

/-- Settles O39: the word is the encoding of UPDATE_CURSOR, and the low byte of the offset is its remainder by 256. -/
theorem updateCursorPushesTheOffset : Obligations.UpdateCursorPushesTheOffset := by
  unfold Obligations.UpdateCursorPushesTheOffset
  refine ⟨decodeEncodeRoundTrip .updateCursor rfl, fun s hs => ?_⟩
  rw [exec_updateCursor hs, updateCursor_eq, offsetLowByte_eq_mod]
  rfl

theorem exec_setShape (a : BitVec 6) (b : BitVec 5) {s : State} (hs : s.live) :
    exec (.setShape a b) s = .next (setShape a b (s.withResult .unit)) :=
  runCommand_ok (setShape a b) hs

/-- Settles O40: the word is the encoding of SETSHAPE, whose six port accesses write the two sub-registers. -/
theorem setShapeKeepsMaskedBits : Obligations.SetShapeKeepsMaskedBits := by
  unfold Obligations.SetShapeKeepsMaskedBits
  refine fun a b => ⟨decodeEncodeRoundTrip (.setShape a b) rfl, fun s hs => ?_⟩
  rw [exec_setShape a b hs, setShape_eq]
  rfl

/-! ### One newline (43_display_cursor_scroll.md R241, R242, R243) -/

/-- Settles O31: above the last row the newline step moves the cursor alone; on it the grid scrolls. -/
theorem newlineMovesOrScrolls : Obligations.NewlineMovesOrScrolls := by
  unfold Obligations.NewlineMovesOrScrolls
  refine ⟨decodeEncodeRoundTrip .newline rfl, fun s hs => ⟨fun habove => ?_, fun hlast => ?_⟩⟩
  · rw [exec_newline hs, afterNewline_above (s := s.withResult .unit) habove]
    rfl
  · refine ⟨_, exec_newline hs, ?_⟩
    rw [afterNewline_lastRow (s := s.withResult .unit) (Nat.not_lt.2 hlast.ge)]
    exact ⟨scrolledFrom_of_cells (s := s) rfl, rfl⟩

/-- Settles O33: the newline step goes on without an abort, and a PUTCHAR that answers a next state went on through its
case, the wrap check and the hardware cursor, none of which writes the abort record. -/
theorem cursorOverflowNeverRaised : Obligations.CursorOverflowNeverRaised := by
  unfold Obligations.CursorOverflowNeverRaised
  refine fun s hs => ⟨⟨_, exec_newline hs, by rwa [afterNewline_aborted]⟩, fun c t ht => ?_⟩
  obtain ⟨-, v, hv, rfl⟩ := (execPutchar_eq_next_iff c s t).1 ht
  show (updateCursor (afterWrap v)).aborted = false
  rw [putcharFrame_of_case hv]
  exact hs

/-! ### Any number of newlines (43_display_cursor_scroll.md R247) -/

/-- The grid of `t` is that of `s` moved up `d` rows, blank in the colour of `s` where that runs past the last row; no
byte outside the grid differs. -/
def scrolledBy (d : Nat) (s t : State) : Prop :=
  (∀ i < 2000, cellRead i t = if i + 80 * d < 2000 then cellRead (i + 80 * d) s else .ok (blankCell s)) ∧
    Claims.bytesKeptOutside s t 0 2000

theorem scrolledBy_zero {s t : State} (h : t.cells = s.cells) : scrolledBy 0 s t := by
  refine ⟨fun i hi => ?_, fun a _ => by rw [h]⟩
  rw [Nat.mul_zero, Nat.add_zero, if_pos hi, cellRead_inGrid t hi, cellRead_inGrid s hi, h]

/-- One scroll more is one row more. -/
theorem scrolledBy.succ {d : Nat} {s t u : State} (h : scrolledBy d s t) (hcolour : t.currentColor = s.currentColor)
    (hu : Claims.scrolledFrom t u) : scrolledBy (d + 1) s u := by
  obtain ⟨hcells, hkept⟩ := h
  obtain ⟨hup, hblank, hkept'⟩ := hu
  refine ⟨fun i hi => ?_, fun a ha => (hkept' a ha).trans (hkept a ha)⟩
  by_cases hrow : i < 1920
  · rw [hup i hrow, hcells (i + 80) (by omega), show i + 80 + 80 * d = i + 80 * (d + 1) by omega]
  · rw [hblank i (by omega) hi, if_neg (by omega), hcolour]
    rfl

/-- A newline step scrolls the grid by one row when it would pass the last row, else by none. -/
theorem scrolledBy.afterNewline {d : Nat} {s t : State} (h : scrolledBy d s t)
    (hcolour : t.currentColor = s.currentColor) :
    scrolledBy (if t.cursorY.toNat < 24 then d else d + 1) s (afterNewline t) := by
  split
  case isTrue habove => rw [afterNewline_above habove]; exact h
  case isFalse hlast =>
    rw [afterNewline_lastRow hlast]
    exact h.succ hcolour (scrolledFrom_of_cells rfl)

/-- A number of newline steps writes the cells and the cursor, and nothing else. -/
theorem iterate_afterNewline_frame (n : Nat) (s : State) :
    afterNewline^[n] s = { s with
      cells := (afterNewline^[n] s).cells
      cursorX := (afterNewline^[n] s).cursorX
      cursorY := (afterNewline^[n] s).cursorY } := by
  induction n with
  | zero => rfl
  | succ n ih =>
    rw [Function.iterate_succ_apply', afterNewline_frame, ih]

/-- The row after `n` newline steps from a row of the grid. -/
theorem iterate_afterNewline_cursorY_toNat (n : Nat) {s : State} (hy : s.cursorY.toNat ≤ 24) :
    (afterNewline^[n] s).cursorY.toNat = min 24 (s.cursorY.toNat + n) := by
  induction n with
  | zero => exact (Nat.min_eq_right hy).symm
  | succ n ih =>
    rw [Function.iterate_succ_apply', afterNewline_cursorY_toNat, ih]
    split <;> omega

/-- The grid after `n` newline steps: moved up by the newlines past the last row. -/
theorem scrolledBy_iterate_afterNewline (n : Nat) {s : State} (hy : s.cursorY.toNat ≤ 24) :
    scrolledBy (s.cursorY.toNat + n - 24) s (afterNewline^[n] s) := by
  induction n with
  | zero =>
    rw [show s.cursorY.toNat + 0 - 24 = 0 by omega]
    exact scrolledBy_zero rfl
  | succ n ih =>
    have hrow := iterate_afterNewline_cursorY_toNat n hy
    have hnext := ih.afterNewline (by rw [iterate_afterNewline_frame])
    rw [Function.iterate_succ_apply']
    convert hnext using 1
    split <;> omega

/-- `n + 1` NEWLINE commands from a live state are `n + 1` newline steps, with no result. -/
theorem repeatExec_newline (n : Nat) {s : State} (hs : s.live) :
    Claims.repeatExec .newline (n + 1) s = .next (afterNewline^[n + 1] (s.withResult .unit)) := by
  induction n generalizing s with
  | zero => rw [Claims.repeatExec, exec_newline hs]; rfl
  | succ n ih =>
    have hlive : (afterNewline (s.withResult .unit)).live := by rwa [State.live, afterNewline_aborted]
    rw [Claims.repeatExec, exec_newline hs]
    dsimp only
    rw [ih hlive, ← afterNewline_withResult, Function.iterate_succ_apply _ (n + 1)]
    rfl

/-- Settles O32, by induction on the number of newlines: one newline step more moves the row, or scrolls by one more. -/
theorem repeatedNewlinesScrollTheTopAway : Obligations.RepeatedNewlinesScrollTheTopAway := by
  unfold Obligations.RepeatedNewlinesScrollTheTopAway
  intro n s hs hy
  have hcolumn : (afterNewline^[n + 1] (s.withResult .unit)).cursorX = 0 := by
    rw [Function.iterate_succ_apply', afterNewline_cursorX]
  obtain ⟨hcells, hkept⟩ := scrolledBy_iterate_afterNewline (n + 1) (s := s.withResult .unit) hy
  refine ⟨_, repeatExec_newline n hs, hcolumn, iterate_afterNewline_cursorY_toNat (n + 1) hy, hcells, hkept, ?_⟩
  rw [← hcolumn]
  exact iterate_afterNewline_frame (n + 1) (s.withResult .unit)

end Sys2Proof.Machine
end

section
/-! The keyboard poll, the turns of a GETLINE, and the line editor (44_poll_line_editor.md). -/

namespace Sys2Proof.Machine

/-! ### A GETLINE in progress, and an idle block -/

/-- Settles O3: what a step runs in the two cases. -/
theorem stepContinuesLineOrIdles : Obligations.StepContinuesLineOrIdles := by
  unfold Obligations.StepContinuesLineOrIdles
  exact fun _ => ⟨step_lineActive, step_idle⟩

/-! ### The poll (44_poll_line_editor.md R260, R261) -/

theorem exec_getChar {s : State} (hs : s.live) :
    exec .getChar s = .next ((pollKeyboard (s.withResult .unit)).2.withResult
      (.character (pollKeyboard (s.withResult .unit)).1)) :=
  runCommand_ok (fun s => (pollKeyboard s).2.withResult (.character (pollKeyboard s).1)) hs

theorem exec_advance_eq_advance (b : Byte) {s : State} (hs : s.live) :
    exec (.advance b) s = .next ((advance b (s.withResult .unit)).2.withResult
      (.character (advance b (s.withResult .unit)).1)) :=
  runCommand_ok (fun s => (advance b s).2.withResult (.character (advance b s).1)) hs

/-- The state after the one access of a poll that finds no byte. -/
def afterStatusRead (s : State) : State :=
  { s with
    kbd := { s.kbd.answer.2 with status := s.kbd.answer.1.status, data := s.kbd.data }
    trace := .read8 Config.kbdStatusPort s.kbd.answer.1.status :: s.trace }

/-- The state after the two accesses of a poll that finds a byte. -/
def afterByteRead (s : State) : State :=
  { s with
    kbd := { s.kbd.answer.2 with status := s.kbd.answer.1.status &&& 0xFE, data := s.kbd.answer.1.data }
    trace := .read8 Config.kbdDataPort s.kbd.answer.1.data ::
      .read8 Config.kbdStatusPort s.kbd.answer.1.status :: s.trace }

theorem pollKeyboard_notReady {s : State} (h : s.kbd.answer.1.status.getLsbD 0 = false) :
    pollKeyboard s = (none, afterStatusRead s) := by
  have hready : isReady s.kbd.answer.1.status = false := h
  simp [pollKeyboard_eq, Keyboard.readStatus, afterStatusRead, hready]

theorem pollKeyboard_ready {s : State} (h : s.kbd.answer.1.status.getLsbD 0 = true) :
    pollKeyboard s = advance s.kbd.answer.1.data (afterByteRead s) := by
  have hready : isReady s.kbd.answer.1.status = true := h
  simp [pollKeyboard_eq, Keyboard.readStatus, Keyboard.readData, afterByteRead, hready]

/-- Settles O42: the word is the encoding of GETCHAR; the poll in its two cases, the second of which ends in ADVANCE. -/
theorem getCharSamplesOnce : Obligations.GetCharSamplesOnce := by
  unfold Obligations.GetCharSamplesOnce
  refine ⟨decodeEncodeRoundTrip .getChar rfl, fun s hs => ⟨fun hwait => ?_, fun hready => ?_⟩⟩
  · rw [exec_getChar hs, pollKeyboard_notReady (s := s.withResult .unit) hwait]
    rfl
  · rw [exec_getChar hs, pollKeyboard_ready (s := s.withResult .unit) hready]
    exact (exec_advance_eq_advance s.kbd.answer.1.data (s := afterByteRead s) hs).symm

/-- Settles O43: with bit 0 clear the status read is the one access; with it set, the data read and the ADVANCE follow. -/
theorem getCharNeverWaits : Obligations.GetCharNeverWaits := by
  unfold Obligations.GetCharNeverWaits
  intro s hs
  obtain ⟨hwait, hread⟩ := getCharSamplesOnce.2 s hs
  cases hready : s.kbd.answer.1.status.getLsbD 0
  case false =>
    exact ⟨_, none, [.read8 Config.kbdStatusPort s.kbd.answer.1.status], _, hwait hready, rfl, rfl, fun _ => rfl⟩
  case true =>
    refine ⟨_, _, [.read8 Config.kbdDataPort s.kbd.answer.1.data, .read8 Config.kbdStatusPort s.kbd.answer.1.status],
      s.kbd.answer.1.status, (hread hready).trans (exec_advance_live _ hs), rfl, rfl, fun h => ?_⟩
    rw [hready] at h
    cases h

/-! ### The line editor's operations (44_poll_line_editor.md R263 to R268, R270) -/

/-- A cut writes the buffer, its length and the free-value counter, and nothing else. -/
theorem cutTo_frame (n : Nat) (s : State) :
    cutTo n s = { s with line := (cutTo n s).line, len := BitVec.ofNat 8 n, lineDraws := (cutTo n s).lineDraws } := by
  unfold cutTo
  rfl

theorem leStep_append {c : Character} (hc : c ≠ 0x0A) (hb : c ≠ 0x08) (s : State) :
    leStep c s = (.goOn, leAppend c s) := by
  rw [leStep, if_neg hc, if_neg hb]

theorem leStep_backspace {s : State} (h : s.mods.ctrlHeld = false) : leStep 0x08 s = (.goOn, leBackspace s) := by
  rw [leStep, if_neg (by decide), if_pos rfl, if_neg (by simp [h])]

theorem leStep_wordDelete {s : State} (h : s.mods.ctrlHeld = true) : leStep 0x08 s = (.goOn, leWordDelete s) := by
  rw [leStep, if_neg (by decide), if_pos rfl, if_pos h]

/-- The first bytes of the buffer, read one byte further. -/
theorem take_succ_line (s : State) {n : Nat} (h : n < 128) :
    s.line.toList.take (n + 1) = s.line.toList.take n ++ [lineByte s n] := by
  rw [List.take_succ_eq_append_getElem (by simpa using h), lineByte, List.getD_eq_getElem]

theorem leAppend_of_full (c : Character) {s : State} (h : 128 ≤ s.len.toNat) : leAppend c s = s :=
  if_neg (Nat.not_lt.2 h)

theorem leAppend_of_room (c : Character) {s : State} (h : s.len.toNat < 128) :
    leAppend c s = { s with
      line := s.line.setIfInBounds s.len.toNat (c.setWidth 8), len := BitVec.ofNat 8 (s.len.toNat + 1) } :=
  if_pos h

theorem leAppend_len_toNat (c : Character) {s : State} (h : s.len.toNat < 128) :
    (leAppend c s).len.toNat = s.len.toNat + 1 := by
  rw [leAppend_of_room c h]
  exact Nat.mod_eq_of_lt (by omega)

theorem bufferBytes_leAppend (c : Character) {s : State} (h : s.len.toNat < 128) :
    bufferBytes (leAppend c s) = bufferBytes s ++ [c.setWidth 8] := by
  rw [bufferBytes, leAppend_len_toNat c h, take_succ_line _ h, leAppend_of_room c h]
  simp [bufferBytes, lineByte, h, List.take_set_of_le]

/-- Settles O45: the append below the capacity, and no change at it. -/
theorem lineAppendsOrDrops : Obligations.LineAppendsOrDrops := by
  unfold Obligations.LineAppendsOrDrops
  intro s c hc hb
  rw [leStep_append hc hb]
  refine ⟨fun hroom => ⟨rfl, leAppend_len_toNat c hroom, bufferBytes_leAppend c hroom, ?_⟩, fun hfull => ?_⟩
  · dsimp only
    rw [leAppend_of_room c hroom]
  · rw [leAppend_of_full c hfull.ge]

theorem leBackspace_len_toNat (s : State) : (leBackspace s).len.toNat = s.len.toNat - 1 := by
  unfold leBackspace
  split
  · rw [cutTo_len, BitVec.toNat_ofNat]
    omega
  · omega

theorem bufferBytes_leBackspace {s : State} (h : s.len.toNat ≤ 128) :
    bufferBytes (leBackspace s) = (bufferBytes s).dropLast := by
  rw [List.dropLast_eq_take, length_bufferBytes s h]
  unfold leBackspace
  split
  case isTrue => exact bufferBytes_cutTo s _ (Nat.sub_le _ _) h
  case isFalse hempty =>
    have hlen : s.len.toNat = 0 := by omega
    simp [bufferBytes, hlen]

/-- Settles O46: a cut by one byte, or no cut of an empty buffer. -/
theorem lineBackspaceRemovesLast : Obligations.LineBackspaceRemovesLast := by
  unfold Obligations.LineBackspaceRemovesLast
  intro s hl hr hlen
  have hframe := leStep_frame 0x08 s
  rw [leStep_backspace (by rw [Mods.ctrlHeld, hl, hr]; rfl)] at hframe ⊢
  exact ⟨rfl, leBackspace_len_toNat s, bufferBytes_leBackspace hlen, hframe⟩

/-- One `while` of 44_poll_line_editor.md R266 is a drop from the right. -/
theorem take_trimRun (p : Byte → Bool) (s : State) {n : Nat} (h : n ≤ 128) :
    s.line.toList.take (trimRun p s n) = (s.line.toList.take n).rdropWhile p := by
  induction n with
  | zero => rfl
  | succ n ih =>
    rw [take_succ_line s h, List.rdropWhile_concat, trimRun]
    split
    · exact ih (Nat.le_of_succ_le h)
    · exact take_succ_line s h

theorem bufferBytes_leWordDelete {s : State} (h : s.len.toNat ≤ 128) :
    bufferBytes (leWordDelete s) =
      ((bufferBytes s).rdropWhile fun v => !isWhitespace v).rdropWhile isWhitespace := by
  have hword := trimRun_le (fun v => !isWhitespace v) s s.len.toNat
  have hspace := trimRun_le isWhitespace s (trimRun (fun v => !isWhitespace v) s s.len.toNat)
  rw [leWordDelete, bufferBytes_cutTo s _ (hspace.trans hword) h, bufferBytes, List.take_take,
    Nat.min_eq_left (hspace.trans hword), take_trimRun _ s (hword.trans h), take_trimRun _ s h]

/-- Settles O47: one cut, to the length that the two loops leave. -/
theorem lineWordDelete : Obligations.LineWordDelete := by
  unfold Obligations.LineWordDelete
  intro s hctrl hlen
  have hframe := leStep_frame 0x08 s
  rw [leStep_wordDelete hctrl] at hframe ⊢
  exact ⟨rfl, bufferBytes_leWordDelete hlen, hframe⟩

/-- Settles O48: the word is the encoding of LE_RESET, which is a cut to length 0. -/
theorem leResetEmptiesTheBuffer : Obligations.LeResetEmptiesTheBuffer := by
  unfold Obligations.LeResetEmptiesTheBuffer
  exact ⟨decodeEncodeRoundTrip .leReset rfl, fun s hs =>
    ⟨_, runCommand_ok (cutTo 0) hs, cutTo_frame 0 (s.withResult .unit)⟩⟩

/-! ### The line editor does not read the result -/

theorem cutTo_withResult (n : Nat) (s : State) (r : Result) : cutTo n (s.withResult r) = (cutTo n s).withResult r := by
  unfold cutTo
  rfl

theorem trimRun_withResult (p : Byte → Bool) (s : State) (r : Result) (n : Nat) :
    trimRun p (s.withResult r) n = trimRun p s n := by
  induction n with
  | zero => rfl
  | succ n ih =>
    rw [trimRun, trimRun, ih]
    rfl

theorem leBackspace_withResult (s : State) (r : Result) :
    leBackspace (s.withResult r) = (leBackspace s).withResult r := by
  rw [leBackspace, leBackspace, cutTo_withResult, State.withResult_len]
  split <;> rfl

theorem leWordDelete_withResult (s : State) (r : Result) :
    leWordDelete (s.withResult r) = (leWordDelete s).withResult r := by
  rw [leWordDelete, trimRun_withResult, trimRun_withResult, cutTo_withResult]
  rfl

theorem leAppend_withResult (c : Character) (s : State) (r : Result) :
    leAppend c (s.withResult r) = (leAppend c s).withResult r := by
  rw [leAppend, leAppend, State.withResult_len]
  split <;> rfl

theorem leStep_withResult (c : Character) (s : State) (r : Result) :
    leStep c (s.withResult r) = ((leStep c s).1, (leStep c s).2.withResult r) := by
  rw [leStep, leStep, State.withResult_mods, leEnter, cutTo_withResult, leWordDelete_withResult,
    leBackspace_withResult, leAppend_withResult]
  split
  · rfl
  split
  · split <;> rfl
  · rfl

/-! ### A turn of GETLINE (44_poll_line_editor.md R269) -/

theorem exec_getLine {s : State} (hs : s.live) : exec .getLine s = .next (getLineTurn (s.withResult .unit)) :=
  runCommand_ok getLineTurn hs

section
variable {s u : State}

theorem getLineTurn_noCharacter (h : pollKeyboard s = (none, u)) : getLineTurn s = lineGoesOn u := by
  rw [getLineTurn, h]

theorem getLineTurn_enter (h : pollKeyboard s = (some 0x0A, u)) :
    getLineTurn s = lineDone (bufferBytes u) (cutTo 0 u) := by
  rw [getLineTurn, h]
  rfl

theorem getLineTurn_goOn {c : Character} (hc : c ≠ 0x0A) (h : pollKeyboard s = (some c, u)) :
    getLineTurn s = lineGoesOn (leStep c u).2 := by
  have hstep : leStep c u = (.goOn, (leStep c u).2) := Prod.ext (leStep_goOn c u hc) rfl
  rw [getLineTurn, h]
  dsimp only
  rw [hstep]

end

/-- Settles O44, by what the poll yields: the line editor's step is the same under GETCHAR's result as under that of the
turn. -/
theorem getLineTurnIsGetCharThenLineStep : Obligations.GetLineTurnIsGetCharThenLineStep := by
  unfold Obligations.GetLineTurnIsGetCharThenLineStep
  intro s hs
  refine ⟨_, _, exec_getChar hs, rfl, ?_⟩
  rw [exec_getLine hs]
  rcases hpoll : pollKeyboard (s.withResult .unit) with ⟨_ | c, u⟩
  case none => rw [getLineTurn_noCharacter hpoll]; rfl
  case some =>
    dsimp only
    rw [leStep_withResult]
    by_cases hc : c = 0x0A
    · subst hc
      rw [getLineTurn_enter hpoll, if_pos rfl, leStep_enter, cutTo_frame]
      rfl
    · rw [getLineTurn_goOn hc hpoll, if_neg hc]
      rfl

end Sys2Proof.Machine
end

section
/-! The abort (60_exceptions.md R281 to R286): which instructions raise it, what an aborted block accepts, and what a
step of it keeps. -/

namespace Sys2Proof.Machine

/-! ### The shared operations raise no abort -/

@[simp] theorem setShape_aborted (a : BitVec 6) (b : BitVec 5) (s : State) :
    (setShape a b s).aborted = s.aborted := by rw [setShape_eq]

@[simp] theorem pollKeyboard_aborted (s : State) : (pollKeyboard s).2.aborted = s.aborted := by
  rw [pollKeyboard_frame]

@[simp] theorem getLineTurn_aborted (s : State) : (getLineTurn s).aborted = s.aborted := by
  rw [getLineTurn_frame]

theorem putcharCase_aborted {c : Character} {s v : State} (h : putcharCase c s = .ok v) : v.aborted = s.aborted := by
  rw [putcharCase_frame c s v h]

/-! ### Where an abort is raised (60_exceptions.md R281) -/

/-- The abort entries of the block, by the instruction that raises them and the condition it raises them under. -/
inductive AbortOrigin (s : State) : Instr → AbortCause → Prop
  | doubleLock (h : s.locked = true) : AbortOrigin s .lock .doubleLock
  | cellRange (i : Instr) (x y g : Byte) (hi : i = .writeAt x y g ∨ i = .writeByte x y g)
      (h : 80 ≤ x.toNat ∨ 25 ≤ y.toNat) : AbortOrigin s i .cellRange

/-- An effect keeps the abort flag, or is abort entry. -/
theorem Effect.aborted_kept_or_entry {s t : State} {i : Instr} (he : Effect s t i) :
    t.aborted = s.aborted ∨ ∃ c, AbortOrigin s i c ∧ t = abortEntry c (s.withResult .unit) := by
  cases he with
  | lockHeld h ht => exact .inr ⟨_, .doubleLock h, ht⟩
  | writeOutside _ x y g hi h ht => exact .inr ⟨_, .cellRange i x y g hi h, ht⟩
  | putchar _ v hv ht =>
    subst ht
    have hcase : v.aborted = s.aborted := by rw [putcharCase_aborted hv, State.withResult_aborted]
    left
    rw [updateCursor_aborted]
    split
    · rw [afterNewline_aborted, hcase]
    · exact hcase
  | clear ht => subst ht; exact .inl rfl
  | _ => subst t; left; simp

/-- An instruction that takes a live block to an aborted one ends in abort entry. -/
theorem exec_abort_origin {i : Instr} {s t : State} (h : exec i s = .next t) (hs : s.aborted = false)
    (ht : t.aborted = true) : ∃ c, AbortOrigin s i c ∧ t = abortEntry c (s.withResult .unit) := by
  have hne : t.aborted ≠ s.aborted := by rw [hs, ht]; decide
  obtain ⟨-, rfl⟩ | ⟨-, he⟩ := exec_next_effect i s t h
  · exact absurd rfl hne
  · exact he.aborted_kept_or_entry.resolve_left hne

/-- Settles O54: abort entry records the cause and the flag alone, and has two origins. -/
theorem abortsComeFromLockOrRange : Obligations.AbortsComeFromLockOrRange := by
  unfold Obligations.AbortsComeFromLockOrRange
  intro i s t h hs ht
  obtain ⟨c, horigin, rfl⟩ := exec_abort_origin h hs ht
  refine ⟨?_, rfl⟩
  cases horigin with
  | doubleLock hlocked => exact .inl ⟨rfl, hlocked, rfl⟩
  | cellRange _ x y g hi hrange => exact .inr ⟨x, y, g, hi, hrange, rfl⟩

/-! ### What an aborted block accepts (60_exceptions.md R286) -/

/-- UNLOCK's refusal is for a live block; an aborted one has no step. -/
theorem execUnlock_aborted {s : State} (h : s.aborted = true) : execUnlock s = .fault .blockAborted := by
  rw [execUnlock, if_neg (by simp [h]), runCommand_aborted _ h]

theorem exec_aborted {i : Instr} {s : State} (h : s.aborted = true) (hforce : i ≠ .forceLock)
    (hreserved : Claims.isReserved i = false) : exec i s = .fault .blockAborted := by
  by_cases hs : isScan i = true
  · obtain ⟨r, hr⟩ := exec_scan i hs
    rw [hr, runScanRow_aborted h]
  cases i
  case forceLock => exact absurd rfl hforce
  case cmdReservedE | cmdReservedF => cases hreserved
  case unlock => exact execUnlock_aborted h
  case putchar | newline | writeAt | writeByte | clear | setColor | setShape | updateCursor | getChar | getLine | lock |
    leReset | advance =>
    simp only [exec, execPutchar, execNewline, execWriteAt, execWriteByte, execClear, execSetColor, execSetShape,
      execUpdateCursor, execGetChar, execGetLine, execLock, execLeReset, execAdvance, runCommand_aborted _ h]
  all_goals exact absurd rfl hs

/-- Settles O52: every meaning but FORCE_LOCK's and the reserved rows' asks for a live block first. -/
theorem abortedBlockAcceptsOnlyForceLock : Obligations.AbortedBlockAcceptsOnlyForceLock := by
  unfold Obligations.AbortedBlockAcceptsOnlyForceLock
  exact fun i s h => ⟨exec_aborted h, _, execForceLock_eq s⟩

/-! ### What a step of an aborted block keeps (60_exceptions.md R285) -/

/-- An instruction that an aborted block answers is FORCE_LOCK. -/
theorem exec_next_of_aborted {i : Instr} {s t : State} (h : exec i s = .next t) (hs : s.aborted = true) :
    t = { s with locked := true, result := .unit } := by
  obtain ⟨-, ht⟩ | ⟨hlive, -⟩ := exec_next_effect i s t h
  · exact ht
  · rw [hs] at hlive
    cases hlive

/-- Settles O55: the step is idle or FORCE_LOCK, with or without the host's first operation taken. -/
theorem abortIsSticky : Obligations.AbortIsSticky := by
  unfold Obligations.AbortIsSticky
  intro s t hst hs
  obtain rfl | hline | ⟨i, rest, hop⟩ := step_eq_next_cases hst
  · rfl
  · rw [exec_next_of_aborted hline hs]
  · rw [exec_next_of_aborted hop hs]

end Sys2Proof.Machine
end

section
/-! The scroll as the ascending copy in place (70_reset_and_hazards.md R318). -/

namespace Sys2Proof.Machine

/-! ### The copy loop (43_display_cursor_scroll.md R242) -/

/-- One turn of the copy loop: cell `i + 80` read and written to cell `i`. -/
def copyCellUp (u : State) (i : Nat) : Run := do
  let v ← cellRead (i + 80) u
  cellWrite i v u

theorem scrollLoop_eq (s : State) :
    Claims.scrollLoop s = (List.range 1920).foldlM copyCellUp s >>=
      Claims.fillLoop (List.range' 1920 80) (blankCell s) := rfl

theorem copyCellUp_inGrid {i : Nat} (u : State) (h : i < 1920) :
    copyCellUp u i = .ok { u with cells := storeCells u.cells i [u.cells.cellAt (i + 80)] } := by
  rw [copyCellUp, cellRead_inGrid u (by omega), ok_bind, cellWrite_inGrid _ u (by omega)]

/-- The cells that `n` turns of the copy loop write, all as they were before the first of them. -/
def copiedCells (n : Nat) (s : State) : List CellWord :=
  (List.range n).map fun j => s.cells.cellAt (j + 80)

@[simp] theorem length_copiedCells (n : Nat) (s : State) : (copiedCells n s).length = n := by
  simp [copiedCells]

theorem copiedCells_succ (n : Nat) (s : State) :
    copiedCells (n + 1) s = copiedCells n s ++ [s.cells.cellAt (n + 80)] := by
  simp [copiedCells, List.range_succ]

theorem scrolledCells_eq (s : State) : scrolledCells s = copiedCells 1920 s ++ List.replicate 80 (blankCell s) := rfl

/-- In ascending order no turn has yet written the cell that the next one reads: the turns before `n` have written cells
below `n`, and the next one reads cell `n + 80`. -/
theorem cellAt_storeCells_copiedCells (n : Nat) (s : State) :
    (storeCells s.cells 0 (copiedCells n s)).cellAt (n + 80) = s.cells.cellAt (n + 80) := by
  rw [Memory.cellAt_storeCells, length_copiedCells, if_neg (by omega)]

/-- Cells stored right after the `n` copied ones make one store with them. -/
theorem storeCells_copiedCells_append (n : Nat) (s : State) (vs : List CellWord) :
    storeCells (storeCells s.cells 0 (copiedCells n s)) n vs = storeCells s.cells 0 (copiedCells n s ++ vs) := by
  simpa using storeCells_append s.cells 0 (copiedCells n s) vs

/-- The copy loop in place is the one store of cells all read beforehand. As in `fillLoop_range'`, the loop copies at
least one cell. -/
theorem foldlM_copyCellUp (n : Nat) (s : State) (h : n < 1920) :
    (List.range (n + 1)).foldlM copyCellUp s =
      .ok { s with cells := storeCells s.cells 0 (copiedCells (n + 1) s) } := by
  induction n with
  | zero => exact copyCellUp_inGrid s h
  | succ n ih =>
    rw [List.range_succ, List.foldlM_append, ih (by omega), ok_bind, List.foldlM_cons, copyCellUp_inGrid _ h, ok_bind,
      List.foldlM_nil, cellAt_storeCells_copiedCells, storeCells_copiedCells_append, ← copiedCells_succ]
    rfl

/-- The blank row written after the copied cells completes the scrolled grid. -/
theorem scrollLoop_eq_scrolled (s : State) : Claims.scrollLoop s = .ok (scrolled s) := by
  rw [scrollLoop_eq, foldlM_copyCellUp 1919 s (by decide), ok_bind, fillLoop_range' _ _ 1920 79 (by decide),
    storeCells_copiedCells_append, ← scrolledCells_eq]
  rfl

/-- Settles O34: the scroll is one store of cells read beforehand, and the ascending copy in place makes the same store,
since it reads each cell before any turn has written it. -/
theorem scrollEqualsAscendingCopy : Obligations.ScrollEqualsAscendingCopy := by
  unfold Obligations.ScrollEqualsAscendingCopy
  intro s
  obtain ⟨hup, -, -⟩ := scrolledFrom_of_cells (s := s) (t := scrolled s) rfl
  exact ⟨⟨scrolled s, scroll_eq s, hup⟩, (scroll_eq s).trans (scrollLoop_eq_scrolled s).symm⟩

end Sys2Proof.Machine
end
